-- ==== Sys2Proof/Word.lean ====
section
/-! DEFINITION. The value types of 00_scope.md R14: bytes, ternary states, rows, directions. R14's `Level` and `Ms` are natural
numbers below 2^`DUTY_W` and 2^`PERIOD_W`; the widths are configuration fields (R11), so the bound is kept by what writes such a
value and stated as an invariant, not put into a type. -/

namespace Sys2Proof

/-- `Byte` of R14. -/
abbrev Byte := BitVec 8

/-- A ternary phase state (00_scope.md R15): `neg` is −1 "energize-reverse", `zero` is 0 "de-energize",
`pos` is +1 "energize-forward". -/
inductive Tern where
  | neg
  | zero
  | pos
  deriving DecidableEq, Repr, Inhabited

/-- `Row` of R14: Tern^5, element k is phase k. -/
abbrev Row := Vector Tern 5

/-- The content of the phase pattern table: exactly 20 rows of exactly 5 ternary values (10_state.md R37,
40_phase_table.md R81 (a), (b), (c) hold by the type). -/
abbrev PhaseTable := Vector Row 20

/-- `Dir` of R14. -/
inductive Dir where
  | forward
  | reverse
  | stopped
  deriving DecidableEq, Repr, Inhabited

/-- A PWM output of the peripheral, a (slice, channel) pair (41_pwm_mapper.md R93). -/
structure PwmChan where
  slice   : Nat
  channel : Nat
  deriving DecidableEq, Repr, Inhabited

/-- The five logical actions of the reference environment (60_exceptions.md R154). -/
inductive BtnAction where
  | periodUp
  | periodDown
  | dutyUp
  | dutyDown
  | modeReset
  deriving DecidableEq, Repr, Inhabited

/-- The three bytes the expander returns during one frame, in the order they are clocked in
(20_memory.md R49). -/
structure Reply where
  r0 : Byte
  r1 : Byte
  r2 : Byte
  deriving DecidableEq, Repr, Inhabited

end Sys2Proof
end

