-- ==== Sys2Proof/Config.lean ====
section
/-! DEFINITION. The parameters of 00_scope.md R10 and R11, and the free values the spec leaves open.
The opaque constants have no body: nothing can evaluate one, so a claim holds whatever they are. -/

namespace Sys2Proof

/-- The clock mode `SPI_MODE` of 20_memory.md R50. Only a wire-level reader needs it. -/
structure SpiMode where
  /-- the clock idles low -/
  idleLow        : Bool
  /-- data is sampled on the trailing edge -/
  sampleTrailing : Bool
  deriving DecidableEq, Repr, Inhabited

/-- The bus bytes of 00_scope.md R11, each "a configuration field a model may override", with R11's
defaults (UNVERIFIED: general knowledge of the MCP23S17, log entry 4), and `SPI_MODE`. -/
structure BusConfig where
  opWr      : Byte := 0x40
  opRd      : Byte := 0x41
  regPortLo : Byte := 0x12
  regPortHi : Byte := 0x13
  regDirLo  : Byte := 0x00
  regDirHi  : Byte := 0x01
  dirAllOut : Byte := 0x00
  spiMode   : SpiMode := ⟨true, true⟩
  deriving DecidableEq, Repr, Inhabited

/-- R11's defaults. -/
def BusConfig.default : BusConfig := {}

/-- R11's default of `DUTY_W`. UNVERIFIED, log entry 3. -/
abbrev defaultDutyW : Nat := 16

/-- R11's default of `PERIOD_W`. UNVERIFIED, log entry 3. -/
abbrev defaultPeriodW : Nat := 32

/-- The parameters of the step relation (00_scope.md R10, R11; 10_state.md R44). They are held in State and
no step writes them (log entry 1). -/
structure Config where
  /-- `DUTY_W`, the width of a Duty Value and of a PWM level -/
  dutyW           : Nat := defaultDutyW
  /-- `PERIOD_W`, the width of a Step Period -/
  periodW         : Nat := defaultPeriodW
  /-- `PHASE_TABLE` -/
  phaseTable      : PhaseTable
  /-- `WRAP_MAX`, a `Level` -/
  wrapMax         : Nat
  /-- `MS_MIN`, an `Ms` -/
  msMin           : Nat
  /-- `MS_MAX`, an `Ms` -/
  msMax           : Nat
  /-- `DEFAULT_PERIOD_MS`, an `Ms` -/
  defaultPeriodMs : Nat
  /-- `PWM_CH[k]` -/
  pwmCh           : Vector PwmChan 5
  /-- `T_RST_PRE_MS` -/
  tRstPreMs       : Nat
  /-- `T_RST_LOW_MS` -/
  tRstLowMs       : Nat
  /-- `T_RST_POST_MS` -/
  tRstPostMs      : Nat
  /-- `DEBOUNCE_TICK_MS`: timing of the environment, on which no rule depends -/
  debounceTickMs  : Nat
  /-- `BTN_PRIO`: highest priority first -/
  btnPrio         : List BtnAction
  /-- which action each of the five input lines asks for (91_not_in_source.md: "a model of `REF_ENV` takes the
  input-to-action map together with `BTN_PRIO`"), log entry 15 -/
  btnMap          : Vector BtnAction 5
  /-- the bus bytes of R11 -/
  bus             : BusConfig
  deriving DecidableEq, Repr, Inhabited

/-- `MIN_DUTY` of R9. -/
def minDuty : Nat := 5

/-- `ACC_BASE` of R9. -/
def accBase : Nat := 5

/-- `ACC_INC` of R9. -/
def accInc : Nat := 5

/-- The five actions in the order R154 lists them; no priority. -/
def allBtnActions : List BtnAction := [.periodUp, .periodDown, .dutyUp, .dutyDown, .modeReset]

namespace Config

/-- Free value: the unconstrained parameters of the built machine (R10 gives no value). -/
opaque freeParams : Config

/-- Free value: DEV's reply to the n-th draw (60_exceptions.md R172, 93_implementation_defined.md U7). -/
opaque devReply : Nat → Reply

/-- Free value: the level of phase k in the PWM peripheral at the n-th draw, before the block writes it
(60_exceptions.md R175, U9); power-on takes as many of its bits as `DUTY_W` says. -/
opaque freeLevel : Nat → Nat → Nat

/-- Free value: the accumulator after the mode/reset action, from the accumulator before it
(60_exceptions.md R157, U16). -/
opaque accAfterMode : Nat → Nat

/-- Free value: the code the mode/reset action writes when `DIR` holds the reserved code 0b11, for which R157
gives no successor. -/
opaque dirAfterReserved : BitVec 2

/-- Free value: the byte expander register a holds from the device's n-th reset until a frame writes it (60_exceptions.md R173,
70_reset_and_hazards.md R182, 93_implementation_defined.md U10). -/
opaque freeRegister : Nat → Nat → Byte

/-- v moved into [lo, hi]. -/
def within (lo hi v : Nat) : Nat := max lo (min hi v)

/-- Five distinct pairs, as R10 demands: the free ones where they are distinct. -/
def distinctChans (v : Vector PwmChan 5) : Vector PwmChan 5 :=
  if v.toList.Nodup then v else #v[⟨0, 0⟩, ⟨0, 1⟩, ⟨1, 0⟩, ⟨1, 1⟩, ⟨2, 0⟩]

/-- A permutation of the five actions, as R10 demands: the free list where it is one. -/
def permActions (l : List BtnAction) : List BtnAction :=
  if l.Perm allBtnActions then l else allBtnActions

/-- The built machine's configuration: R11's defaults, and every parameter R10 leaves open at a free value that
meets R10's constraint (log entry 2). -/
def site : Config :=
  { phaseTable      := freeParams.phaseTable
    wrapMax         := within 5 (2 ^ defaultDutyW - 1) freeParams.wrapMax
    msMin           := within 0 (2 ^ defaultPeriodW - 1) freeParams.msMin
    msMax           := within (within 0 (2 ^ defaultPeriodW - 1) freeParams.msMin) (2 ^ defaultPeriodW - 1) freeParams.msMax
    defaultPeriodMs :=
      within (within 0 (2 ^ defaultPeriodW - 1) freeParams.msMin)
        (within (within 0 (2 ^ defaultPeriodW - 1) freeParams.msMin) (2 ^ defaultPeriodW - 1) freeParams.msMax) freeParams.defaultPeriodMs
    pwmCh           := distinctChans freeParams.pwmCh
    tRstPreMs       := freeParams.tRstPreMs
    tRstLowMs       := freeParams.tRstLowMs
    tRstPostMs      := freeParams.tRstPostMs
    debounceTickMs  := freeParams.debounceTickMs
    btnPrio         := permActions freeParams.btnPrio
    btnMap          := freeParams.btnMap
    bus             := BusConfig.default }

end Config

end Sys2Proof
end

