-- ==== Sys2Proof/Syntax.lean ====
section
/-! DEFINITION. The instructions: one constructor per row of spec/opcode_table.json, the FSM states that name 16 of
them, the three code formats, and the pseudo-operations of 30_encoding.md R76. -/

namespace Sys2Proof

/-- The 16 FSM states (30_encoding.md R66): what `ST`, the block's program counter, can hold. -/
inductive FsmState where
  | initRstHigh
  | initRstLow
  | initRstRelease
  | initIodirLo
  | initIodirHi
  | lookup
  | pwmSet
  | compose
  | wrLo
  | wrHi
  | rdLo
  | rdHi
  | advance
  | heartbeat
  | sleepArm
  | sleepWait
  deriving DecidableEq, Repr, Inhabited

/-- One constructor per row of spec/opcode_table.json: the 16 micro-operations (R66), the six bus frames (R68) and the
three legal direction arms of ADVANCE (R64). What a frame and an arm mean on their own is log entry 18. -/
inductive Instr where
  | initRstHigh
  | initRstLow
  | initRstRelease
  | initIodirLo
  | initIodirHi
  | lookup
  | pwmSet
  | compose
  | wrLo
  | wrHi
  | rdLo
  | rdHi
  | advance
  | heartbeat
  | sleepArm
  | sleepWait
  | wrdirLo
  | wrdirHi
  | wrportLo (data : Byte)
  | wrportHi (data : Byte)
  | rdportLo
  | rdportHi
  | advanceForward
  | advanceReverse
  | advanceStopped
  deriving DecidableEq, Repr, Inhabited

/-- The micro-operation an FSM state names (30_encoding.md R66, R75). -/
def FsmState.instr : FsmState → Instr
  | .initRstHigh    => .initRstHigh
  | .initRstLow     => .initRstLow
  | .initRstRelease => .initRstRelease
  | .initIodirLo    => .initIodirLo
  | .initIodirHi    => .initIodirHi
  | .lookup         => .lookup
  | .pwmSet         => .pwmSet
  | .compose        => .compose
  | .wrLo           => .wrLo
  | .wrHi           => .wrHi
  | .rdLo           => .rdLo
  | .rdHi           => .rdHi
  | .advance        => .advance
  | .heartbeat      => .heartbeat
  | .sleepArm       => .sleepArm
  | .sleepWait      => .sleepWait

/-- An encoded instruction, in one of the three formats of spec/opcode_table.json. -/
inductive Code where
  /-- an FSM state code (R66) -/
  | st (c : BitVec 4)
  /-- a direction code (R64) -/
  | dir (c : BitVec 2)
  /-- a bus frame as the 24-bit value F = {b0, b1, b2} (R67) -/
  | frame (f : BitVec 24)
  deriving DecidableEq, Repr, Inhabited

/-- The pseudo-operations of 30_encoding.md R76. -/
inductive PseudoOp where
  | startup
  | drive
  | iter
  deriving DecidableEq, Repr

/-- `DRIVE` of R76. -/
def driveStates : List FsmState :=
  [.lookup, .pwmSet, .pwmSet, .pwmSet, .pwmSet, .pwmSet, .compose, .wrLo, .wrHi, .rdLo, .rdHi]

/-- The expansion R76 gives each pseudo-operation. -/
def PseudoOp.expand : PseudoOp → List FsmState
  | .startup => [.initRstHigh, .initRstLow, .initRstRelease, .initIodirLo, .initIodirHi]
  | .drive   => driveStates
  | .iter    => driveStates ++ [.advance, .heartbeat, .sleepArm, .sleepWait]

end Sys2Proof
end

