-- ==== Sys2Proof/WellFormed.lean ====
section
/-! DEFINITION. Well-formedness: of an instruction, of a phase table given as ternary codes (40_phase_table.md R81,
30_encoding.md R63) and of a configuration (00_scope.md R10, R11). -/

namespace Sys2Proof

/-- Every term of `Instr` is well formed: no state code is reserved (30_encoding.md R66), the two port-write frames carry
any data byte (R68; `PORT_LO` and `PORT_HI` hold "any byte", 10_state.md R21), and no other row has an operand. -/
def Instr.wf : Instr → Bool
  | .initRstHigh => true
  | .initRstLow => true
  | .initRstRelease => true
  | .initIodirLo => true
  | .initIodirHi => true
  | .lookup => true
  | .pwmSet => true
  | .compose => true
  | .wrLo => true
  | .wrHi => true
  | .rdLo => true
  | .rdHi => true
  | .advance => true
  | .heartbeat => true
  | .sleepArm => true
  | .sleepWait => true
  | .wrdirLo => true
  | .wrdirHi => true
  | .wrportLo _ => true
  | .wrportHi _ => true
  | .rdportLo => true
  | .rdportHi => true
  | .advanceForward => true
  | .advanceReverse => true
  | .advanceStopped => true

/-- A phase table as it is handed over: rows of 2-bit ternary codes (30_encoding.md R62), of any shape. -/
abbrev TableCodes := List (List (BitVec 2))

/-- Why a configuration is refused before the first step. -/
inductive ConfigError where
  /-- not exactly 20 rows (40_phase_table.md R81 (a)) -/
  | rowCount
  /-- a row of other than 5 elements (R81 (b)) -/
  | rowLength
  /-- an element with the reserved code 0b10 (R81 (c), 30_encoding.md R63) -/
  | reservedTernary
  /-- a parameter that breaks its constraint in 00_scope.md R10 -/
  | parameter
  deriving DecidableEq, Repr

/-- R81's three checks, in the order R81 lists them. -/
def TableCodes.check (t : TableCodes) : Option ConfigError :=
  if t.length ≠ 20 then some .rowCount
  else if t.any (fun r => r.length ≠ 5) then some .rowLength
  else if t.any (fun r => r.any (fun c => c = 0b10#2)) then some .reservedTernary
  else none

/-- The constraints of 00_scope.md R10 on the open parameters, against the widths of R11; the checks of R81 hold by the type of the
table. -/
def Config.wf (c : Config) : Bool :=
  5 ≤ c.wrapMax && c.wrapMax < 2 ^ c.dutyW && c.msMin ≤ c.msMax && c.msMax < 2 ^ c.periodW
    && c.msMin ≤ c.defaultPeriodMs && c.defaultPeriodMs ≤ c.msMax && c.pwmCh.toList.Nodup && decide (c.btnPrio.Perm allBtnActions)

/-- The bus bytes tell the six frames of 30_encoding.md R68 apart (R72): the two opcodes differ and the four register
addresses are pairwise different. R11's defaults meet it; an override need not. -/
def BusConfig.framesDistinct (b : BusConfig) : Bool :=
  b.opWr ≠ b.opRd && [b.regPortLo, b.regPortHi, b.regDirLo, b.regDirHi].Nodup

end Sys2Proof
end

