-- ==== Sys2Proof/Decode.lean ====
section
/-! DEFINITION. The five encodings of 30_encoding.md: ternary codes (R62, R63), rows (R65), direction codes (R64), FSM state
codes (R66) and bus frames (R67, R68); decoding is total and rejects by name, and the encoder follows it. -/

namespace Sys2Proof

/-! ### Ternary codes and rows -/

/-- R62, R63: the value of a ternary code; 0b10 is reserved. -/
def Tern.ofCode (c : BitVec 2) : Option Tern :=
  if c = 0b01#2 then some .pos
  else if c = 0b00#2 then some .zero
  else if c = 0b11#2 then some .neg
  else none

/-- R62: two's complement. -/
def Tern.code : Tern → BitVec 2
  | .pos => 0b01#2
  | .zero => 0b00#2
  | .neg => 0b11#2

/-- The integer a ternary state stands for (R14). -/
def Tern.toInt : Tern → Int
  | .pos => 1
  | .zero => 0
  | .neg => -1

/-- R65: phase k's code at bits [2k+1:2k]. -/
def rowCode (r : Row) : BitVec 10 :=
  r[4].code ++ r[3].code ++ r[2].code ++ r[1].code ++ r[0].code

/-- R65 read back; no row where an element holds the reserved code. -/
def rowOfCode (c : BitVec 10) : Option Row := do
  let t0 ← Tern.ofCode (c.extractLsb' 0 2)
  let t1 ← Tern.ofCode (c.extractLsb' 2 2)
  let t2 ← Tern.ofCode (c.extractLsb' 4 2)
  let t3 ← Tern.ofCode (c.extractLsb' 6 2)
  let t4 ← Tern.ofCode (c.extractLsb' 8 2)
  some #v[t0, t1, t2, t3, t4]

/-- Element k of a list of codes that passed `TableCodes.check`. -/
def ternAt (r : List (BitVec 2)) (k : Nat) : Tern := (Tern.ofCode (r.getD k 0#2)).getD .zero

/-- 40_phase_table.md R81, 30_encoding.md R63: a table of ternary codes becomes the phase table, or is refused. -/
def PhaseTable.ofCodes (t : TableCodes) : Except ConfigError PhaseTable :=
  match t.check with
  | some e => .error e
  | none => .ok (Vector.ofFn fun i => Vector.ofFn fun k => ternAt (t.getD i.val []) k.val)

/-! ### Direction codes -/

/-- R64; 0b11 is reserved. -/
def Dir.ofCode (c : BitVec 2) : Option Dir :=
  if c = 0b00#2 then some .forward
  else if c = 0b01#2 then some .reverse
  else if c = 0b10#2 then some .stopped
  else none

/-- R64. -/
def Dir.code : Dir → BitVec 2
  | .forward => 0b00#2
  | .reverse => 0b01#2
  | .stopped => 0b10#2

/-! ### FSM state codes -/

/-- R66; no code is reserved, and the last arm is code 0xF, the only one left of the 16. -/
def FsmState.ofCode (c : BitVec 4) : FsmState :=
  match c.toNat with
  | 0 => .initRstHigh
  | 1 => .initRstLow
  | 2 => .initRstRelease
  | 3 => .initIodirLo
  | 4 => .initIodirHi
  | 5 => .lookup
  | 6 => .pwmSet
  | 7 => .compose
  | 8 => .wrLo
  | 9 => .wrHi
  | 10 => .rdLo
  | 11 => .rdHi
  | 12 => .advance
  | 13 => .heartbeat
  | 14 => .sleepArm
  | _ => .sleepWait

/-- R66. -/
def FsmState.code : FsmState → BitVec 4
  | .initRstHigh    => 0x0#4
  | .initRstLow     => 0x1#4
  | .initRstRelease => 0x2#4
  | .initIodirLo    => 0x3#4
  | .initIodirHi    => 0x4#4
  | .lookup         => 0x5#4
  | .pwmSet         => 0x6#4
  | .compose        => 0x7#4
  | .wrLo           => 0x8#4
  | .wrHi           => 0x9#4
  | .rdLo           => 0xA#4
  | .rdHi           => 0xB#4
  | .advance        => 0xC#4
  | .heartbeat      => 0xD#4
  | .sleepArm       => 0xE#4
  | .sleepWait      => 0xF#4

/-! ### Bus frames -/

/-- R67: F = {b0, b1, b2}; b0 is transferred first (20_memory.md R49). -/
def frameWord (b0 b1 b2 : Byte) : BitVec 24 := b0 ++ b1 ++ b2

/-- b0 = F[23:16] (R67). -/
def frameB0 (f : BitVec 24) : Byte := f.extractLsb' 16 8

/-- b1 = F[15:8], the field `REG` (R67). -/
def frameB1 (f : BitVec 24) : Byte := f.extractLsb' 8 8

/-- b2 = F[7:0], the field `DATA` (R67). -/
def frameB2 (f : BitVec 24) : Byte := f.extractLsb' 0 8

/-- The field `DEVCODE` = F[23:20] (R67). -/
def frameDevCode (f : BitVec 24) : BitVec 4 := f.extractLsb' 20 4

/-- The field `HWADDR` = F[19:17] (R67). -/
def frameHwAddr (f : BitVec 24) : BitVec 3 := f.extractLsb' 17 3

/-- The field `RW` = F[16]: 0 write, 1 read (R67). -/
def frameRw (f : BitVec 24) : Bool := f.getLsbD 16

/-- The 24 bits of a frame in the order they are on the wire: byte 0 first (20_memory.md R49), in each byte the most
significant bit first (R50). -/
def wireBits (b0 b1 b2 : Byte) : List Bool :=
  [b0, b1, b2].flatMap fun b => (List.range 8).map fun i => b.getMsbD i

/-- Why a code is no instruction. -/
inductive DecodeError where
  /-- the direction code 0b11 (R64) -/
  | reservedDirCode
  /-- (b0, b1) is that of no frame of R68: "a frame PSEQ5 does not emit" (R72) -/
  | unknownFrame
  /-- the third byte of a frame whose third byte R68 fixes is another byte -/
  | fixedByte
  deriving DecidableEq, Repr

/-- R68, R72: the frame with bytes b0, b1, b2. With bus bytes that do not tell the frames apart
(`BusConfig.framesDistinct` fails) the first row of R68 that fits is taken (log entry 27). -/
def decodeFrame (b : BusConfig) (b0 b1 b2 : Byte) : Except DecodeError Instr :=
  if b0 = b.opWr then
    if b1 = b.regDirLo then if b2 = b.dirAllOut then .ok .wrdirLo else .error .fixedByte
    else if b1 = b.regDirHi then if b2 = b.dirAllOut then .ok .wrdirHi else .error .fixedByte
    else if b1 = b.regPortLo then .ok (.wrportLo b2)
    else if b1 = b.regPortHi then .ok (.wrportHi b2)
    else .error .unknownFrame
  else if b0 = b.opRd then
    if b1 = b.regPortLo then if b2 = 0x00#8 then .ok .rdportLo else .error .fixedByte
    else if b1 = b.regPortHi then if b2 = 0x00#8 then .ok .rdportHi else .error .fixedByte
    else .error .unknownFrame
  else .error .unknownFrame

/-- The arm of ADVANCE a Direction Mode selects (R64). -/
def Dir.instr : Dir → Instr
  | .forward => .advanceForward
  | .reverse => .advanceReverse
  | .stopped => .advanceStopped

/-- Decoding, total on the codes of each format. -/
def decode (b : BusConfig) : Code → Except DecodeError Instr
  | .st c => .ok (FsmState.ofCode c).instr
  | .dir c =>
    match Dir.ofCode c with
    | some d => .ok d.instr
    | none => .error .reservedDirCode
  | .frame f => decodeFrame b (frameB0 f) (frameB1 f) (frameB2 f)

/-- The code of an instruction. -/
def encode (b : BusConfig) : Instr → Code
  | .initRstHigh    => .st 0x0#4
  | .initRstLow     => .st 0x1#4
  | .initRstRelease => .st 0x2#4
  | .initIodirLo    => .st 0x3#4
  | .initIodirHi    => .st 0x4#4
  | .lookup         => .st 0x5#4
  | .pwmSet         => .st 0x6#4
  | .compose        => .st 0x7#4
  | .wrLo           => .st 0x8#4
  | .wrHi           => .st 0x9#4
  | .rdLo           => .st 0xA#4
  | .rdHi           => .st 0xB#4
  | .advance        => .st 0xC#4
  | .heartbeat      => .st 0xD#4
  | .sleepArm       => .st 0xE#4
  | .sleepWait      => .st 0xF#4
  | .wrdirLo        => .frame (frameWord b.opWr b.regDirLo b.dirAllOut)
  | .wrdirHi        => .frame (frameWord b.opWr b.regDirHi b.dirAllOut)
  | .wrportLo data  => .frame (frameWord b.opWr b.regPortLo data)
  | .wrportHi data  => .frame (frameWord b.opWr b.regPortHi data)
  | .rdportLo       => .frame (frameWord b.opRd b.regPortLo 0x00#8)
  | .rdportHi       => .frame (frameWord b.opRd b.regPortHi 0x00#8)
  | .advanceForward => .dir 0b00#2
  | .advanceReverse => .dir 0b01#2
  | .advanceStopped => .dir 0b10#2

/-! ### Words as spec/opcode_table.json numbers them -/

/-- The code a table word stands for, from its width: 2 bits a direction code, up to 8 a state code (a state code fills a
byte), 9 to 24 a frame. A word of 8 bits is always read as a state code (log entry 19). -/
def Code.ofTableWord (nbits w : Nat) : Option Code :=
  if nbits ≤ 2 then if w < 4 then some (.dir (BitVec.ofNat 2 w)) else none
  else if nbits ≤ 8 then if w < 16 then some (.st (BitVec.ofNat 4 w)) else none
  else if nbits ≤ 24 then if w < 2 ^ 24 then some (.frame (BitVec.ofNat 24 w)) else none
  else none

/-- The instruction the decoder reads from a word numbered as spec/opcode_table.json numbers it, with the bus bytes of
00_scope.md R11 that the table is written with. -/
def decodeTableWord (nbits w : Nat) : Option Instr :=
  match Code.ofTableWord nbits w with
  | none => none
  | some c =>
    match decode BusConfig.default c with
    | .ok i => some i
    | .error _ => none

end Sys2Proof
end

