-- ==== Sys2Proof/Machine/State.lean ====
section
/-! DEFINITION. The state of PSEQ5 and of the agents around it (10_state.md), as plain data; its reset
(70_reset_and_hazards.md R180); the fault kinds and the refusals. -/

namespace Sys2Proof.Machine

/-- The fault kinds of 60_exceptions.md R141, each with the value R141 says it records; `FAULT` holds one. A block whose
`FAULT` is set takes no step, and `step` answers with this fault (R140). Safe: the spec stops there too. -/
inductive Fault where
  /-- `IDX_RANGE`: raised by LOOKUP at `ST` = LOOKUP when `IDX` ≥ 20; records `IDX`. Safe. -/
  | idxRange (idx : BitVec 5)
  /-- `PH_RANGE`: raised by PWM_SET at `ST` = PWM_SET when `PH` ≥ 5; records `PH`. Safe. -/
  | phRange (ph : BitVec 3)
  /-- `DIR_CODE`: raised by ADVANCE at `ST` = ADVANCE when the DIR input holds 0b11; records the code. Safe. -/
  | dirCode (code : BitVec 2)
  deriving DecidableEq, Repr

/-- The `ST` a fault records (R141). -/
def Fault.st : Fault → FsmState
  | .idxRange _ => .lookup
  | .phRange _ => .pwmSet
  | .dirCode _ => .advance

/-- Why the model gives no meaning. -/
inductive Refusal where
  /-- an instruction that has no meaning yet; raised by an arm of `exec`, and no arm raises it. Safe. -/
  | notModelled (mnemonic : String)
  /-- a configuration that fails a check is refused before the first step (40_phase_table.md R81); raised by `boot`. Safe. -/
  | illFormedConfig (e : ConfigError)
  deriving DecidableEq, Repr

/-- The timer agent's state (60_exceptions.md R170). -/
inductive Timer where
  | idle
  | armed (ms : Nat)
  | expired
  deriving DecidableEq, Repr

/-- The two output lines (10_state.md R45, 60_exceptions.md R174). -/
inductive OutLine where
  | heartbeat
  | rstN
  deriving DecidableEq, Repr

/-- The events of the observable trace (10_state.md R45). -/
inductive Event where
  /-- `Frame(b0, b1, b2, r0, r1, r2)` -/
  | frame (b0 b1 b2 r0 r1 r2 : Byte)
  /-- `Pwm(k, level)` -/
  | pwm (k : Fin 5) (level : Nat)
  /-- `Line(line, b)` -/
  | line (l : OutLine) (b : Bool)
  /-- `Report(MISMATCH, reg, wrote, read)` -/
  | mismatch (reg wrote read : Byte)
  /-- `Timer(ms)` -/
  | timer (ms : Nat)
  deriving DecidableEq, Repr

/-- One `CTL` step writes one of the three inputs whole (60_exceptions.md R151, 10_state.md R35). -/
inductive CtlWrite where
  | dir (c : BitVec 2)
  | duty (d : Nat)
  | period (p : Nat)
  deriving DecidableEq, Repr

/-- The order of the three writes of the mode/reset action: "a model admits every order" (60_exceptions.md R157). -/
inductive ResetOrder where
  | periodDutyDir
  | periodDirDuty
  | dutyPeriodDir
  | dutyDirPeriod
  | dirPeriodDuty
  | dirDutyPeriod
  deriving DecidableEq, Repr

/-- One item of the schedule: which agent moves next, and with what input (10_state.md R20, 30_encoding.md R76,
60_exceptions.md R178). The schedule is plain data, so a claim about every state is a claim about every schedule
(log entry 5). -/
inductive Action where
  /-- the block steps, or holds where its step is not enabled -/
  | seq
  /-- `tmr expire`: the timer steps where it is armed -/
  | tmr
  /-- `ctl X := v`: CTL writes an input, any value (a value outside R151's contract too) -/
  | ctl (w : CtlWrite)
  /-- REF_ENV's debounce tick with a snapshot of its five input lines (R153); `press` says whether an active mode/reset
  line counts as a press at this tick, and `order` in which order its writes go (R157 leaves both open, log entry 14) -/
  | tick (snapshot : Vector Bool 5) (press : Bool) (order : ResetOrder)
  /-- REF_ENV makes the next write of the invocation it is in (R160) -/
  | ctlNext
  /-- `dev rd = v`: the byte DEV returns to the next read frame; a later one replaces it (log entry 29) -/
  | devRd (v : Byte)
  /-- power is removed and comes back (R178, 70_reset_and_hazards.md R183) -/
  | powerCycle
  deriving DecidableEq, Repr

/-- The expander registers frames have written since the expander's last reset: (address, byte) pairs, addresses strictly rising. A
register that is not listed holds a free byte (`devByte`; 70_reset_and_hazards.md R182, log entry 10). -/
abbrev Memory := List Host.Cell

/-- The canonical form: addresses strictly rising, all of them 8-bit register addresses (20_memory.md R46). No entry can
equal what an unlisted address reads as in the list, since that is no byte. -/
def Memory.wf (m : Memory) : Bool :=
  decide ((m.map Prod.fst).Pairwise (· < ·)) && m.all (fun c => c.1 < 256)

/-- The whole machine. -/
structure State where
  /-- the parameters, `PHASE_TABLE` among them: written by no step (10_state.md R37, R38, R44) -/
  cfg     : Config
  /-- `ST`, the program counter (R22) -/
  st      : FsmState
  /-- `IDX`, the Step Index (R26) -/
  idx     : BitVec 5
  /-- `ROW`, the latched pattern row (R28) -/
  row     : Row
  /-- `PH`, the phase counter (R29) -/
  ph      : BitVec 3
  /-- `PORT_LO` (R30) -/
  portLo  : Byte
  /-- `PORT_HI` (R30) -/
  portHi  : Byte
  /-- `HB`, which the heartbeat line shows (R31) -/
  hb      : Bool
  /-- `SLEEP_MS` (R32), `PERIOD_W` bits -/
  sleepMs : Nat
  /-- `RST_N`, which drives the expander reset line, active low (R33) -/
  rstN    : Bool
  /-- `FAULT` (R34) -/
  fault   : Option Fault
  /-- the input `DIR`, a raw code (R23) -/
  dir     : BitVec 2
  /-- the input `DUTY` (R24), `DUTY_W` bits -/
  duty    : Nat
  /-- the input `PERIOD` (R25), `PERIOD_W` bits -/
  period  : Nat
  /-- `TMR` (60_exceptions.md R170) -/
  tmr     : Timer
  /-- `LEVEL[k]`, at `PWM_CH[k]` in the PWM peripheral (R39), `DUTY_W` bits each -/
  level   : Vector Nat 5
  /-- the expander's registers (R40) that frames have written since its last reset -/
  dev     : Memory
  /-- the model's own: the draw at which the expander was last reset, which gives its unwritten registers their free bytes
  (log entry 10) -/
  devDraw : Nat
  /-- the observable trace, oldest event first (R45) -/
  trace   : List Event
  /-- `ACC`, REF_ENV's private accumulator (60_exceptions.md R161) -/
  acc     : Nat
  /-- the writes REF_ENV's running invocation has still to make (R160) -/
  pending : List CtlWrite
  /-- the byte set by `dev rd = v` for the next read frame; none is a draw (30_encoding.md R76, R172) -/
  devRd   : Option Byte
  /-- the model's own: how many free values have been drawn (log entry 9) -/
  draws   : Nat
  /-- the model's own: the agent steps still to come (log entry 5) -/
  sched   : List Action
  deriving DecidableEq, Repr

/-- Power-on reset (70_reset_and_hazards.md R180) of a machine with configuration c: every block register at its value of
10_state.md R21, `TMR` Idle, the trace empty, CTL's start-up values in place (60_exceptions.md R152). The PWM levels and the
expander's registers are free values, drawn at n (log entries 10 and 11). -/
def State.powerOn (c : Config) (n : Nat) (sched : List Action) : State :=
  { cfg     := c
    st      := .initRstHigh
    idx     := 0
    row     := #v[.zero, .zero, .zero, .zero, .zero]
    ph      := 0
    portLo  := 0x00
    portHi  := 0x00
    hb      := false
    sleepMs := 0
    rstN    := true
    fault   := none
    dir     := 0b00
    duty    := c.wrapMax / 2
    period  := c.defaultPeriodMs
    tmr     := .idle
    level   := Vector.ofFn fun k => Config.freeLevel n k.val % 2 ^ c.dutyW
    dev     := []
    devDraw := n
    trace   := []
    acc     := accBase
    pending := []
    devRd   := none
    draws   := n + 1
    sched   := sched }

/-- The machine right after reset: the built machine's configuration and nothing scheduled. -/
def State.reset : State := State.powerOn Config.site 0 []

end Sys2Proof.Machine
end

