-- ==== Sys2Proof/Machine/Ops.lean ====
section
/-! DEFINITION. The named operations of 00_scope.md R13 over the state: next state, lines, timer, bus frames, PWM writes,
raising a fault; and the expander's register memory. -/

namespace Sys2Proof.Machine

/-! ### The expander's register memory -/

/-- The byte last written to register a, where one was. -/
def Memory.read (m : Memory) (a : Nat) : Option Byte :=
  match m with
  | [] => none
  | (b, v) :: rest => if b = a then some v else Memory.read rest a

/-- Register a takes v; the addresses stay in rising order. -/
def Memory.write (m : Memory) (a : Nat) (v : Byte) : Memory :=
  match m with
  | [] => [(a, v)]
  | (b, w) :: rest =>
    if a < b then (a, v) :: (b, w) :: rest
    else if a = b then (a, v) :: rest
    else (b, w) :: Memory.write rest a v

/-- The byte expander register a holds (10_state.md R40): the one last written, or a free byte where no frame has written it since
the expander's reset (93_implementation_defined.md U10, log entry 10). -/
def devByte (s : State) (a : Nat) : Byte := (s.dev.read a).getD (Config.freeRegister s.devDraw a)

/-! ### The block's primitives -/

/-- `ST <- S`. -/
def State.goto (next : FsmState) (s : State) : State := { s with st := next }

/-- `emit E`. -/
def State.emit (e : Event) (s : State) : State := { s with trace := s.trace ++ [e] }

/-- `Arm(ms); emit Timer(ms)` (60_exceptions.md R170). -/
def State.arm (ms : Nat) (s : State) : State := State.emit (.timer ms) { s with tmr := .armed ms }

/-- `TMR <- Idle`. -/
def State.disarm (s : State) : State := { s with tmr := .idle }

/-- `RST_N <- b; Drive(RST_N, b); emit Line(RST_N, b)`. A low level hardware-resets the expander (44_startup.md R130), and what
its registers then hold "is the device's business" (60_exceptions.md R173): fresh free bytes (log entry 10). -/
def State.driveRstN (b : Bool) (s : State) : State :=
  State.emit (.line .rstN b)
    { s with
      rstN    := b
      dev     := if b then s.dev else []
      devDraw := if b then s.devDraw else s.draws
      draws   := if b then s.draws else s.draws + 1 }

/-- `HB <- b; Drive(HEARTBEAT, b); emit Line(HEARTBEAT, b)`. -/
def State.driveHeartbeat (b : Bool) (s : State) : State := State.emit (.line .heartbeat b) { s with hb := b }

/-- `PwmWrite(k, level); emit Pwm(k, level)`: `LEVEL[k]` takes the level (20_memory.md R54). -/
def State.pwmWrite (k : Fin 5) (level : Nat) (s : State) : State :=
  State.emit (.pwm k level) { s with level := s.level.set k level }

/-- `ROW <- r; PH <- 0` (40_phase_table.md R82). -/
def State.latchRow (r : Row) (s : State) : State := { s with row := r, ph := 0 }

/-- `PORT_LO <- lo; PORT_HI <- hi` (42_port_codec.md R101). -/
def State.setPorts (lo hi : Byte) (s : State) : State := { s with portLo := lo, portHi := hi }

/-- `SLEEP_MS <- p` (43_sequencer.md R124). -/
def State.setSleepMs (p : Nat) (s : State) : State := { s with sleepMs := p }

/-- `wait TMR = Expired; TMR <- Idle`, then the rest of the rule. Where the timer has not expired the step is not enabled and
the block holds: nothing changes (43_sequencer.md R121, log entry 6). -/
def whenExpired (s : State) (rest : State → Host.Outcome State Fault Refusal) : Host.Outcome State Fault Refusal :=
  match s.tmr with
  | .expired => rest s.disarm
  | .idle => .next s
  | .armed _ => .next s

/-- `FAULT <- kind`. -/
def State.setFault (f : Fault) (s : State) : State := { s with fault := some f }

/-- `raise Fault(kind)` (60_exceptions.md R140): `FAULT` is set and the step has no other effect. From the state it leaves,
`step` answers the fault (log entry 7). There is no return: only reset clears `FAULT`. -/
def raise (f : Fault) (s : State) : Host.Outcome State Fault Refusal := .next (s.setFault f)

/-! ### Bus frames -/

/-- DEV's reply to a write frame: a draw (60_exceptions.md R172). -/
def writeReply (s : State) : Reply := Config.devReply s.draws

/-- DEV's reply to a read frame: a draw, but for the last byte where `dev rd = v` has set it (30_encoding.md R76). -/
def readReply (s : State) : Reply :=
  { Config.devReply s.draws with r2 := s.devRd.getD (Config.devReply s.draws).r2 }

/-- `BusXfer(OP_WR, reg, data)` and its `Frame` event: the addressed expander register takes the data byte (20_memory.md R54,
60_exceptions.md R173); the received bytes go to the trace only (30_encoding.md R69). -/
def State.busWrite (reg data : Byte) (s : State) : State :=
  State.emit (.frame s.cfg.bus.opWr reg data (writeReply s).r0 (writeReply s).r1 (writeReply s).r2)
    { s with dev := s.dev.write reg.toNat data, draws := s.draws + 1 }

/-- `BusXfer(OP_RD, reg, 0x00)` and its `Frame` event: no expander register changes (20_memory.md R54). The byte read is
`(readReply s).r2`. -/
def State.busRead (reg : Byte) (s : State) : State :=
  State.emit (.frame s.cfg.bus.opRd reg 0x00#8 (readReply s).r0 (readReply s).r1 (readReply s).r2)
    { s with devRd := none, draws := s.draws + 1 }

end Sys2Proof.Machine
end

