-- ==== Sys2Proof/Machine/Operands.lean ====
section
/-! DEFINITION. The operands of the micro-operations: control inputs, table rows, phase bits, levels, the index counter. -/

namespace Sys2Proof.Machine

/-- `In(DIR)`: one atomic read of the direction code (10_state.md R23, R35). -/
def inDir (s : State) : BitVec 2 := s.dir

/-- `In(DUTY)` (10_state.md R24, R35). -/
def inDuty (s : State) : Nat := s.duty

/-- `In(PERIOD)` (10_state.md R25, R35). -/
def inPeriod (s : State) : Nat := s.period

/-- `RomRead(i)`: row i of the table, none out of range (40_phase_table.md R83, 20_memory.md R52). -/
def romRead (t : PhaseTable) (i : Nat) : Option Row := t[i]?

/-- `on(t)` (42_port_codec.md R101, R108): 1 for +1, 0 for 0 and for −1. -/
def on (t : Tern) : BitVec 1 := if t = .pos then 1#1 else 0#1

/-- The low port byte of a row (30_encoding.md R70): pins 7, 6, 5 are phases 2, 1, 0. -/
def portLoOf (r : Row) : Byte := on r[2] ++ on r[1] ++ on r[0] ++ 0b00000#5

/-- The high port byte of a row (30_encoding.md R70): pins 9, 8 are phases 4, 3. -/
def portHiOf (r : Row) : Byte := 0b000000#6 ++ on r[4] ++ on r[3]

/-- `PIN[k]` (00_scope.md R9). -/
def pinOf (k : Fin 5) : Nat := 5 + k.val

/-- The level of pin p of the 16 expander lines, as the port bytes give it (20_memory.md R51). -/
def pinBit (lo hi : Byte) (p : Nat) : Bool := if p < 8 then lo.getLsbD (p % 8) else hi.getLsbD (p % 8)

/-- `level_for` (41_pwm_mapper.md R91). -/
def levelFor (t : Tern) (d : Nat) : Nat := if t = .zero then 0 else d

/-- The step index a direction mode moves i to (43_sequencer.md R122), on unbounded integers. -/
def nextIndex (d : Dir) (i : BitVec 5) : BitVec 5 :=
  match d with
  | .forward => BitVec.ofInt 5 ((i.toNat + 1 : Int) % 20)
  | .reverse => BitVec.ofInt 5 ((i.toNat - 1 + 20 : Int) % 20)
  | .stopped => i

/-- The direction mux acting on `IDX` (43_sequencer.md R122). -/
def State.moveIdx (d : Dir) (s : State) : State := { s with idx := nextIndex d s.idx }

/-- The level the PWM peripheral holds for the output (slice, channel), where one of the five phases drives it
(41_pwm_mapper.md R93, 20_memory.md R46). -/
def levelAt (s : State) (ch : PwmChan) : Option Nat :=
  ((List.finRange 5).find? fun k => s.cfg.pwmCh[k] = ch).map fun k => s.level[k]

end Sys2Proof.Machine
end

