-- ==== Sys2Proof/Machine/Flags.lean ====
section
/-! DEFINITION. The block has no status flags and no condition codes (10_state.md R42). The one comparison it makes, the
verification of a port write, is a report in the trace. -/

namespace Sys2Proof.Machine

/-- `if read != wrote: emit Report(MISMATCH, reg, wrote, read)` over all 8 bits (42_port_codec.md R104 to R106): an event and no
state (60_exceptions.md R145). -/
def State.verify (reg wrote read : Byte) (s : State) : State :=
  { s with trace := s.trace ++ if read = wrote then [] else [.mismatch reg wrote read] }

end Sys2Proof.Machine
end

