-- ==== Sys2Proof/Machine/PhaseTable.lean ====
section
/-! DEFINITION. LOOKUP, 40_phase_table.md. -/

namespace Sys2Proof.Machine

/-- R82. -/
def execLookup (s : State) : Host.Outcome State Fault Refusal :=
  match romRead s.cfg.phaseTable s.idx.toNat with
  | none => raise (.idxRange s.idx) s
  | some row => .next ((s.latchRow row).goto .pwmSet)

end Sys2Proof.Machine
end

