-- ==== Sys2Proof/Machine/PortCodec.lean ====
section
/-! DEFINITION. The port-expander protocol encoder, 42_port_codec.md, and the six bus frames of 30_encoding.md R68. A frame's
own meaning is its bus transaction; the micro-operation that issues it adds the move to the next state (log entry 18). -/

namespace Sys2Proof.Machine

/-- R101. -/
def execCompose (s : State) : Host.Outcome State Fault Refusal :=
  .next ((s.setPorts (portLoOf s.row) (portHiOf s.row)).goto .wrLo)

/-- R102. -/
def execWrLo (s : State) : Host.Outcome State Fault Refusal :=
  .next ((s.busWrite s.cfg.bus.regPortLo s.portLo).goto .wrHi)

/-- R103. -/
def execWrHi (s : State) : Host.Outcome State Fault Refusal :=
  .next ((s.busWrite s.cfg.bus.regPortHi s.portHi).goto .rdLo)

/-- R104. -/
def execRdLo (s : State) : Host.Outcome State Fault Refusal :=
  .next (((s.busRead s.cfg.bus.regPortLo).verify s.cfg.bus.regPortLo s.portLo (readReply s).r2).goto .rdHi)

/-- R105. -/
def execRdHi (s : State) : Host.Outcome State Fault Refusal :=
  .next (((s.busRead s.cfg.bus.regPortHi).verify s.cfg.bus.regPortHi s.portHi (readReply s).r2).goto .advance)

/-- The frame `WRDIR_LO` (R68, R134). -/
def execWrdirLo (s : State) : Host.Outcome State Fault Refusal :=
  .next (s.busWrite s.cfg.bus.regDirLo s.cfg.bus.dirAllOut)

/-- The frame `WRDIR_HI` (R68, R135). -/
def execWrdirHi (s : State) : Host.Outcome State Fault Refusal :=
  .next (s.busWrite s.cfg.bus.regDirHi s.cfg.bus.dirAllOut)

/-- The frame `WRPORT_LO` with its data byte (R68, R102). -/
def execWrportLo (data : Byte) (s : State) : Host.Outcome State Fault Refusal :=
  .next (s.busWrite s.cfg.bus.regPortLo data)

/-- The frame `WRPORT_HI` with its data byte (R68, R103). -/
def execWrportHi (data : Byte) (s : State) : Host.Outcome State Fault Refusal :=
  .next (s.busWrite s.cfg.bus.regPortHi data)

/-- The frame `RDPORT_LO` (R68, R104). -/
def execRdportLo (s : State) : Host.Outcome State Fault Refusal :=
  .next (s.busRead s.cfg.bus.regPortLo)

/-- The frame `RDPORT_HI` (R68, R105). -/
def execRdportHi (s : State) : Host.Outcome State Fault Refusal :=
  .next (s.busRead s.cfg.bus.regPortHi)

end Sys2Proof.Machine
end

