-- ==== Sys2Proof/Machine/PwmMapper.lean ====
section
/-! DEFINITION. PWM_SET, 41_pwm_mapper.md. -/

namespace Sys2Proof.Machine

/-- The end of R90: from phase 4 to COMPOSE with `PH` left at 4, else to the next phase. -/
def State.nextPhase (s : State) : State :=
  if s.ph = 4 then s.goto .compose else State.goto .pwmSet { s with ph := s.ph + 1 }

/-- R90. -/
def execPwmSet (s : State) : Host.Outcome State Fault Refusal :=
  if h : s.ph.toNat < 5 then
    .next (s.pwmWrite ⟨s.ph.toNat, h⟩ (levelFor s.row[s.ph.toNat] (inDuty s))).nextPhase
  else raise (.phRange s.ph) s

end Sys2Proof.Machine
end

