-- ==== Sys2Proof/Machine/Sequencer.lean ====
section
/-! DEFINITION. The direction mux with the step index counter, the heartbeat and the pacing, 43_sequencer.md. -/

namespace Sys2Proof.Machine

/-- R122. -/
def execAdvance (s : State) : Host.Outcome State Fault Refusal :=
  match Dir.ofCode (inDir s) with
  | none => raise (.dirCode (inDir s)) s
  | some d => .next ((s.moveIdx d).goto .heartbeat)

/-- The Forward arm of ADVANCE (R122, 30_encoding.md R64). -/
def execAdvanceForward (s : State) : Host.Outcome State Fault Refusal := .next (s.moveIdx .forward)

/-- The Reverse arm of ADVANCE (R122, 30_encoding.md R64). -/
def execAdvanceReverse (s : State) : Host.Outcome State Fault Refusal := .next (s.moveIdx .reverse)

/-- The Stopped arm of ADVANCE (R122, 30_encoding.md R64). -/
def execAdvanceStopped (s : State) : Host.Outcome State Fault Refusal := .next (s.moveIdx .stopped)

/-- R123. -/
def execHeartbeat (s : State) : Host.Outcome State Fault Refusal :=
  .next ((s.driveHeartbeat (!s.hb)).goto .sleepArm)

/-- R124. -/
def execSleepArm (s : State) : Host.Outcome State Fault Refusal :=
  .next (((s.setSleepMs (inPeriod s)).arm (inPeriod s)).goto .sleepWait)

/-- R125. -/
def execSleepWait (s : State) : Host.Outcome State Fault Refusal :=
  whenExpired s fun t => .next (t.goto .lookup)

end Sys2Proof.Machine
end

