-- ==== Sys2Proof/Machine/Startup.lean ====
section
/-! DEFINITION. The expander start-up handshake, 44_startup.md. -/

namespace Sys2Proof.Machine

/-- R131. -/
def execInitRstHigh (s : State) : Host.Outcome State Fault Refusal :=
  .next (((s.driveRstN true).arm s.cfg.tRstPreMs).goto .initRstLow)

/-- R132. -/
def execInitRstLow (s : State) : Host.Outcome State Fault Refusal :=
  whenExpired s fun t => .next (((t.driveRstN false).arm t.cfg.tRstLowMs).goto .initRstRelease)

/-- R133. -/
def execInitRstRelease (s : State) : Host.Outcome State Fault Refusal :=
  whenExpired s fun t => .next (((t.driveRstN true).arm t.cfg.tRstPostMs).goto .initIodirLo)

/-- R134. -/
def execInitIodirLo (s : State) : Host.Outcome State Fault Refusal :=
  whenExpired s fun t => .next ((t.busWrite t.cfg.bus.regDirLo t.cfg.bus.dirAllOut).goto .initIodirHi)

/-- R135. -/
def execInitIodirHi (s : State) : Host.Outcome State Fault Refusal :=
  .next ((s.busWrite s.cfg.bus.regDirHi s.cfg.bus.dirAllOut).goto .lookup)

end Sys2Proof.Machine
end

