-- ==== Sys2Proof/Machine/Dispatch.lean ====
section
/-! DEFINITION. exec: one arm per constructor of Instr. -/

namespace Sys2Proof.Machine

def exec (i : Instr) (s : State) : Host.Outcome State Fault Refusal :=
  match i with
  | .initRstHigh => Sys2Proof.Machine.execInitRstHigh s
  | .initRstLow => Sys2Proof.Machine.execInitRstLow s
  | .initRstRelease => Sys2Proof.Machine.execInitRstRelease s
  | .initIodirLo => Sys2Proof.Machine.execInitIodirLo s
  | .initIodirHi => Sys2Proof.Machine.execInitIodirHi s
  | .lookup => Sys2Proof.Machine.execLookup s
  | .pwmSet => Sys2Proof.Machine.execPwmSet s
  | .compose => Sys2Proof.Machine.execCompose s
  | .wrLo => Sys2Proof.Machine.execWrLo s
  | .wrHi => Sys2Proof.Machine.execWrHi s
  | .rdLo => Sys2Proof.Machine.execRdLo s
  | .rdHi => Sys2Proof.Machine.execRdHi s
  | .advance => Sys2Proof.Machine.execAdvance s
  | .heartbeat => Sys2Proof.Machine.execHeartbeat s
  | .sleepArm => Sys2Proof.Machine.execSleepArm s
  | .sleepWait => Sys2Proof.Machine.execSleepWait s
  | .wrdirLo => Sys2Proof.Machine.execWrdirLo s
  | .wrdirHi => Sys2Proof.Machine.execWrdirHi s
  | .wrportLo data => Sys2Proof.Machine.execWrportLo data s
  | .wrportHi data => Sys2Proof.Machine.execWrportHi data s
  | .rdportLo => Sys2Proof.Machine.execRdportLo s
  | .rdportHi => Sys2Proof.Machine.execRdportHi s
  | .advanceForward => Sys2Proof.Machine.execAdvanceForward s
  | .advanceReverse => Sys2Proof.Machine.execAdvanceReverse s
  | .advanceStopped => Sys2Proof.Machine.execAdvanceStopped s

end Sys2Proof.Machine
end

