-- ==== Sys2Proof/Machine/Environment.lean ====
section
/-! DEFINITION. The agents around the block, 60_exceptions.md: `CTL`, its reference instance `REF_ENV`, `TMR`, `DEV`'s scheduled
answer, power; and the check of a configuration before the first step. -/

namespace Sys2Proof.Machine

/-! ### The timer -/

/-- The four states whose step waits on the timer (43_sequencer.md R121). -/
def waitsForTimer : FsmState → Bool
  | .initRstHigh => false
  | .initRstLow => true
  | .initRstRelease => true
  | .initIodirLo => true
  | .initIodirHi => false
  | .lookup => false
  | .pwmSet => false
  | .compose => false
  | .wrLo => false
  | .wrHi => false
  | .rdLo => false
  | .rdHi => false
  | .advance => false
  | .heartbeat => false
  | .sleepArm => false
  | .sleepWait => true

/-- A timer is running. -/
def Timer.isArmed : Timer → Bool
  | .idle => false
  | .armed _ => true
  | .expired => false

/-- A `TMR` step: enabled only in Armed(ms), it sets the timer to Expired (R170); else nothing changes. -/
def tmrStep (s : State) : State :=
  match s.tmr with
  | .armed _ => { s with tmr := .expired }
  | .idle => s
  | .expired => s

/-- The block is alive and holds on an armed timer, so only a `TMR` step can come before its next step (43_sequencer.md R121). -/
def holdsOnTimer (s : State) : Bool := s.fault.isNone && waitsForTimer s.st && s.tmr.isArmed

/-! ### The control environment -/

/-- A `CTL` step: one input is written whole (R151). `DUTY` and `PERIOD` hold `DUTY_W` and `PERIOD_W` bits (10_state.md R24, R25):
of a wider scheduled number the low bits are kept (DESIGN CHOICE, log entry 3). -/
def ctlWrite (w : CtlWrite) (s : State) : State :=
  match w with
  | .dir c => { s with dir := c }
  | .duty d => { s with duty := d % 2 ^ s.cfg.dutyW }
  | .period p => { s with period := p % 2 ^ s.cfg.periodW }

/-- `clamp(v, lo, hi)` on unbounded integers (R155, R159). -/
def clampInt (lo hi v : Int) : Int := max lo (min hi v)

/-- `PERIOD` moved by delta and clamped (R155). -/
def adjustedPeriod (s : State) (delta : Int) : Nat :=
  (clampInt s.cfg.msMin s.cfg.msMax (s.period + delta)).toNat

/-- `DUTY` moved by delta and clamped to [5, `WRAP_MAX`] (R156, R159). -/
def adjustedDuty (s : State) (delta : Int) : Nat :=
  (clampInt minDuty s.cfg.wrapMax (s.duty + delta)).toNat

/-- Forward → Reverse → Stopped → Forward (R157); after the reserved code a free one. -/
def nextDirCode (c : BitVec 2) : BitVec 2 :=
  match Dir.ofCode c with
  | some .forward => Dir.reverse.code
  | some .reverse => Dir.stopped.code
  | some .stopped => Dir.forward.code
  | none => Config.dirAfterReserved

/-- The three writes of the mode/reset action in the order given (R157). -/
def resetWrites (order : ResetOrder) (s : State) : List CtlWrite :=
  let p := CtlWrite.period s.cfg.defaultPeriodMs
  let u := CtlWrite.duty (s.cfg.wrapMax / 2)
  let d := CtlWrite.dir (nextDirCode s.dir)
  match order with
  | .periodDutyDir => [p, u, d]
  | .periodDirDuty => [p, d, u]
  | .dutyPeriodDir => [u, p, d]
  | .dutyDirPeriod => [u, d, p]
  | .dirPeriodDuty => [d, p, u]
  | .dirDutyPeriod => [d, u, p]

/-- The actions a snapshot of the five input lines asks for. -/
def requested (c : Config) (snapshot : Vector Bool 5) : List BtnAction :=
  ((List.finRange 5).filter fun k => snapshot[k]).map fun k => c.btnMap[k]

/-- The one action honoured: first match in the fixed priority order (R154). -/
def honoured (c : Config) (snapshot : Vector Bool 5) : Option BtnAction :=
  c.btnPrio.find? fun a => (requested c snapshot).contains a

/-- What a tick does when an action is honoured (R155, R156, R157): the invocation's writes are queued, to be made one `CTL` step
each (R160), and the accumulator grows. -/
def refEnvAction (a : BtnAction) (press : Bool) (order : ResetOrder) (s : State) : State :=
  match a with
  | .periodUp   => { s with pending := [.period (adjustedPeriod s s.acc)], acc := s.acc + accInc }
  | .periodDown => { s with pending := [.period (adjustedPeriod s (-s.acc))], acc := s.acc + accInc }
  | .dutyUp     => { s with pending := [.duty (adjustedDuty s s.acc)], acc := s.acc + accInc }
  | .dutyDown   => { s with pending := [.duty (adjustedDuty s (-s.acc))], acc := s.acc + accInc }
  | .modeReset  =>
    { s with pending := if press then resetWrites order s else [], acc := Config.accAfterMode s.acc }

/-- One debounce tick of `REF_ENV` (R153 to R158). While an invocation is still at its writes the timer source does not fire
(R160): nothing happens. With no input active the accumulator returns to its base value (R158). An active line whose action
`BTN_PRIO` does not list has no effect (R10 makes `BTN_PRIO` list all five). -/
def refEnvTick (snapshot : Vector Bool 5) (press : Bool) (order : ResetOrder) (s : State) : State :=
  match s.pending with
  | _ :: _ => s
  | [] =>
    match requested s.cfg snapshot with
    | [] => { s with acc := accBase }
    | _ :: _ =>
      match honoured s.cfg snapshot with
      | none => s
      | some a => refEnvAction a press order s

/-- `REF_ENV` makes the next write of its invocation, one whole input (R160, R151). -/
def ctlNext (s : State) : State :=
  match s.pending with
  | [] => s
  | w :: rest => ctlWrite w { s with pending := rest }

/-! ### DEV's scheduled answer, and power -/

/-- `dev rd = v` (30_encoding.md R76). There is one slot: of two such actions before one read frame the later replaces the earlier.
R76 leaves that open (DESIGN CHOICE, log entry 29). -/
def setDevRd (v : Byte) (s : State) : State := { s with devRd := some v }

/-- Power is removed and comes back: all state is lost and the block starts from its one reset (R176, R178,
70_reset_and_hazards.md R183). The configuration is the machine's; the schedule and the draws are the model's own. -/
def powerCycle (s : State) : State := State.powerOn s.cfg s.draws s.sched

/-! ### Before the first step -/

/-- A configuration with its phase table handed over as ternary codes is checked before the first step and refused where a check
fails (40_phase_table.md R81, 00_scope.md R10); else the machine powers on with it. -/
def boot (codes : TableCodes) (c : Config) : Host.Outcome State Fault Refusal :=
  match PhaseTable.ofCodes codes with
  | .error e => .refused (.illFormedConfig e)
  | .ok t =>
    if c.wf then .next (State.powerOn { c with phaseTable := t } 0 [])
    else .refused (.illFormedConfig .parameter)

end Sys2Proof.Machine
end

