-- ==== Sys2Proof/Machine/Fetch.lean ====
section
/-! DEFINITION. Selecting the micro-operation by `ST`, and putting a code where the next step takes it from. -/

namespace Sys2Proof.Machine

/-- The instruction the block runs next: the micro-operation of the 4-bit code in `ST` (10_state.md R22, 30_encoding.md R66). -/
def fetch (s : State) : Instr := (FsmState.ofCode s.st.code).instr

/-- s ready to run the micro-operation of st at its very next step: nothing scheduled before it, no fault, and the timer expired
where the micro-operation waits for it (log entry 20). -/
def placeState (st : FsmState) (s : State) : State :=
  { s with st := st, sched := [], fault := none, tmr := if waitsForTimer st then .expired else s.tmr }

/-- s ready to issue the frame i at its very next step: `ST` is the micro-operation that issues it, and the port byte it sends is
the frame's data byte (30_encoding.md R68). -/
def placeFrame (i : Instr) (s : State) : State :=
  match i with
  | .wrdirLo => placeState .initIodirLo s
  | .wrdirHi => placeState .initIodirHi s
  | .wrportLo data => placeState .wrLo { s with portLo := data }
  | .wrportHi data => placeState .wrHi { s with portHi := data }
  | .rdportLo => placeState .rdLo s
  | .rdportHi => placeState .rdHi s
  | .initRstHigh | .initRstLow | .initRstRelease | .initIodirLo | .initIodirHi | .lookup | .pwmSet | .compose
  | .wrLo | .wrHi | .rdLo | .rdHi | .advance | .heartbeat | .sleepArm | .sleepWait
  | .advanceForward | .advanceReverse | .advanceStopped => s

/-- s ready to run the code c at its very next step. A frame the block never emits (30_encoding.md R72) cannot be placed. -/
def placeCode (c : Code) (s : State) : State :=
  match c with
  | .st k => placeState (FsmState.ofCode k) s
  | .dir k => placeState .advance { s with dir := k }
  | .frame f =>
    match decode s.cfg.bus (.frame f) with
    | .ok i => placeFrame i s
    | .error _ => s

end Sys2Proof.Machine
end

