-- ==== Sys2Proof/Machine/Step.lean ====
section
/-! DEFINITION. One step of the machine: one step of one agent. -/

namespace Sys2Proof.Machine

/-- A `SEQ` step: the micro-operation `ST` names (43_sequencer.md R121). A faulted block has no enabled step and is a fault
outcome (60_exceptions.md R140). -/
def seqStep (s : State) : Host.Outcome State Fault Refusal :=
  match s.fault with
  | some f => .fault f
  | none => exec (fetch s) s

/-- One step of the agent the schedule names; with nothing scheduled the block steps, or its timer expires where it holds on an
armed one (log entry 5). -/
def step (s : State) : Host.Outcome State Fault Refusal :=
  match s.sched with
  | [] => if holdsOnTimer s then .next (tmrStep s) else seqStep s
  | .seq :: rest => seqStep { s with sched := rest }
  | .tmr :: rest => .next (tmrStep { s with sched := rest })
  | .ctl w :: rest => .next (ctlWrite w { s with sched := rest })
  | .tick snapshot press order :: rest => .next (refEnvTick snapshot press order { s with sched := rest })
  | .ctlNext :: rest => .next (ctlNext { s with sched := rest })
  | .devRd v :: rest => .next (setDevRd v { s with sched := rest })
  | .powerCycle :: rest => .next (powerCycle { s with sched := rest })

/-- s with the table word w of nbits bits where the very next step takes its instruction from. -/
def State.withFetchWord (s : State) (nbits w : Nat) : State :=
  match Code.ofTableWord nbits w with
  | some c => placeCode c s
  | none => s

end Sys2Proof.Machine
end

