-- ==== Sys2Proof/Safety.lean ====
section
/-! DEFINITION. The terms claims use: the environment's contract (60_exceptions.md R151), the invariants of the machine, what an
operation leaves unchanged, and the frames of 30_encoding.md R68. -/

namespace Sys2Proof.Machine

/-! ### The environment's contract -/

/-- A direction write that keeps R151: one of the three codes. -/
def CtlWrite.dirLegal : CtlWrite → Bool
  | .dir c => c ≠ 0b11#2
  | .duty _ => true
  | .period _ => true

/-- A write that keeps R151. -/
def CtlWrite.meets (c : Config) : CtlWrite → Bool
  | .dir k => k ≠ 0b11#2
  | .duty d => 5 ≤ d && d ≤ c.wrapMax
  | .period p => c.msMin ≤ p && p ≤ c.msMax

/-- A scheduled agent step that keeps R151. Only a CTL write can break it. -/
def Action.meets (c : Config) : Action → Bool
  | .seq => true
  | .tmr => true
  | .ctl w => w.meets c
  | .tick _ _ _ => true
  | .ctlNext => true
  | .devRd _ => true
  | .powerCycle => true

/-- Every scheduled step keeps the contract. -/
abbrev ContractSchedule (s : State) : Prop := ∀ a ∈ s.sched, a.meets s.cfg = true

/-! ### Invariants -/

/-- What keeps every fault out of reach under the contract (60_exceptions.md R143): no fault yet, `IDX` < 20 (10_state.md R27),
`PH` < 5 (R29), a legal `DIR`, and nothing scheduled or pending that would make it illegal. -/
abbrev FaultFree (s : State) : Prop :=
  s.fault = none ∧ s.idx.toNat < 20 ∧ s.ph.toNat < 5 ∧ s.dir ≠ 0b11#2 ∧ ContractSchedule s ∧
    ∀ w ∈ s.pending, w.dirLegal = true

/-- `CTL`'s values keep R151's bounds, with `REF_ENV` running. `10 ≤ WRAP_MAX` is needed: the start-up and reset duty is
floor(`WRAP_MAX` / 2) (R152), which is below 5 for a smaller `WRAP_MAX` (log entry 17). -/
abbrev InputsInContract (s : State) : Prop :=
  s.cfg.wf = true ∧ 10 ≤ s.cfg.wrapMax ∧
    (CtlWrite.dir s.dir).meets s.cfg = true ∧ (CtlWrite.duty s.duty).meets s.cfg = true ∧
    (CtlWrite.period s.period).meets s.cfg = true ∧ ContractSchedule s ∧
    ∀ w ∈ s.pending, w.meets s.cfg = true

/-- Every value of `DUTY_W` or `PERIOD_W` bits fits its width (10_state.md R24, R25, R32, 00_scope.md R14), in a configuration that
keeps R10. -/
abbrev ValuesFit (s : State) : Prop :=
  s.cfg.wf = true ∧ s.duty < 2 ^ s.cfg.dutyW ∧ s.period < 2 ^ s.cfg.periodW ∧ s.sleepMs < 2 ^ s.cfg.periodW ∧
    ∀ k : Fin 5, s.level[k] < 2 ^ s.cfg.dutyW

/-- The timer is running or expired exactly in the four waiting states, so every `Arm` finds it Idle (R170); in SLEEP_WAIT it runs
for the sampled period (10_state.md R32). -/
abbrev TimerInStep (s : State) : Prop :=
  (waitsForTimer s.st = true ↔ s.tmr ≠ .idle) ∧
    (s.st = .sleepWait → s.tmr = .armed s.sleepMs ∨ s.tmr = .expired)

/-- The expander reset line is low in INIT_RST_RELEASE and high everywhere else (10_state.md R33). -/
abbrev ResetLineInStep (s : State) : Prop := s.rstN = decide (s.st ≠ .initRstRelease)

/-- The states after INIT_RST_RELEASE, in which the expander reset line stays 1 (10_state.md R33). -/
def pastRelease : FsmState → Bool
  | .initRstHigh | .initRstLow | .initRstRelease => false
  | .initIodirLo | .initIodirHi | .lookup | .pwmSet | .compose | .wrLo | .wrHi | .rdLo | .rdHi | .advance | .heartbeat
  | .sleepArm | .sleepWait => true

/-- From LOOKUP to ADVANCE: the states in which `ROW` is the row of the current `IDX`. -/
def rowIsCurrent : FsmState → Bool
  | .pwmSet | .compose | .wrLo | .wrHi | .rdLo | .rdHi | .advance => true
  | .initRstHigh | .initRstLow | .initRstRelease | .initIodirLo | .initIodirHi | .lookup
  | .heartbeat | .sleepArm | .sleepWait => false

/-- The states between a LOOKUP and its COMPOSE, in which the port bytes are still the previous row's. -/
def portsAreStale : FsmState → Bool
  | .pwmSet | .compose => true
  | .initRstHigh | .initRstLow | .initRstRelease | .initIodirLo | .initIodirHi | .lookup
  | .wrLo | .wrHi | .rdLo | .rdHi | .advance | .heartbeat | .sleepArm | .sleepWait => false

/-- The row and the port bytes follow the index (40_phase_table.md R82, 42_port_codec.md R107, 43_sequencer.md R127). -/
abbrev DriveFollowsIndex (s : State) : Prop :=
  (rowIsCurrent s.st = true → romRead s.cfg.phaseTable s.idx.toNat = some s.row) ∧
    (portsAreStale s.st = false → s.portLo = portLoOf s.row ∧ s.portHi = portHiOf s.row)

/-- The states from the first LOOKUP on. -/
def started : FsmState → Bool
  | .initRstHigh | .initRstLow | .initRstRelease | .initIodirLo | .initIodirHi => false
  | .lookup | .pwmSet | .compose | .wrLo | .wrHi | .rdLo | .rdHi | .advance | .heartbeat | .sleepArm | .sleepWait => true

/-- Past start-up both port-direction registers hold `DIR_ALL_OUT` (70_reset_and_hazards.md R190). -/
abbrev LinesAreOutputs (s : State) : Prop :=
  (s.st = .initIodirHi ∨ started s.st = true → s.dev.read s.cfg.bus.regDirLo.toNat = some s.cfg.bus.dirAllOut) ∧
    (started s.st = true → s.dev.read s.cfg.bus.regDirHi.toNat = some s.cfg.bus.dirAllOut)

/-- The states between WR_LO and the next LOOKUP. -/
def lowPortWritten : FsmState → Bool
  | .wrHi | .rdLo | .rdHi | .advance | .heartbeat | .sleepArm | .sleepWait => true
  | .initRstHigh | .initRstLow | .initRstRelease | .initIodirLo | .initIodirHi | .lookup | .pwmSet | .compose | .wrLo => false

/-- The states between WR_HI and the next LOOKUP. -/
def highPortWritten : FsmState → Bool
  | .rdLo | .rdHi | .advance | .heartbeat | .sleepArm | .sleepWait => true
  | .initRstHigh | .initRstLow | .initRstRelease | .initIodirLo | .initIodirHi | .lookup | .pwmSet | .compose | .wrLo
  | .wrHi => false

/-- After a port write the expander's port register holds the port byte (60_exceptions.md R173). -/
abbrev PortsReachExpander (s : State) : Prop :=
  (lowPortWritten s.st = true → s.dev.read s.cfg.bus.regPortLo.toNat = some s.portLo) ∧
    (highPortWritten s.st = true → s.dev.read s.cfg.bus.regPortHi.toNat = some s.portHi)

/-- The states in which every phase of `ROW` has had its PWM_SET. -/
def levelsAreSet : FsmState → Bool
  | .compose | .wrLo | .wrHi | .rdLo | .rdHi | .advance | .heartbeat | .sleepArm | .sleepWait => true
  | .initRstHigh | .initRstLow | .initRstRelease | .initIodirLo | .initIodirHi | .lookup | .pwmSet => false

/-- A de-energised phase whose level this iteration has written is at level 0, whatever CTL does (41_pwm_mapper.md R90). -/
abbrev OffPhasesAreOff (s : State) : Prop :=
  ∀ k : Fin 5, s.row[k] = .zero →
    levelsAreSet s.st = true ∨ (s.st = .pwmSet ∧ k.val < s.ph.toNat) → s.level[k] = 0

/-- The bits no phase drives are 0 (10_state.md R41, 42_port_codec.md R101). -/
abbrev UndrivenBitsClear (s : State) : Prop := s.portLo &&& 0x1F#8 = 0 ∧ s.portHi &&& 0xFC#8 = 0

/-- The event is no frame, or one of the six frames of 30_encoding.md R68. -/
def Event.inCatalogue (b : BusConfig) : Event → Prop
  | .frame b0 b1 b2 _ _ _ =>
    (b0 = b.opWr ∧ b1 = b.regDirLo ∧ b2 = b.dirAllOut) ∨ (b0 = b.opWr ∧ b1 = b.regDirHi ∧ b2 = b.dirAllOut) ∨
      (b0 = b.opWr ∧ b1 = b.regPortLo) ∨ (b0 = b.opWr ∧ b1 = b.regPortHi) ∨
      (b0 = b.opRd ∧ b1 = b.regPortLo ∧ b2 = 0x00#8) ∨ (b0 = b.opRd ∧ b1 = b.regPortHi ∧ b2 = 0x00#8)
  | .pwm _ _ => True
  | .line _ _ => True
  | .mismatch _ _ _ => True
  | .timer _ => True

/-- Every frame of the trace is one of the six (20_memory.md R48). -/
abbrev FramesInCatalogue (s : State) : Prop := ∀ e ∈ s.trace, e.inCatalogue s.cfg.bus

/-- The premise `DEV_ECHO` for the next read of register reg: DEV answers the byte the register holds
(60_exceptions.md R172). -/
abbrev DevEcho (s : State) (reg : Byte) : Prop := (readReply s).r2 = devByte s reg.toNat

/-- The events of the reset-line handshake, in order (44_startup.md R131 to R133). -/
def handshakeEvents (c : Config) : List Event :=
  [.line .rstN true, .timer c.tRstPreMs, .line .rstN false, .timer c.tRstLowMs, .line .rstN true, .timer c.tRstPostMs]

/-- The frame event of a port-direction write with DEV's reply r (44_startup.md R134, R135). -/
def dirFrame (c : Config) (reg : Byte) (r : Reply) : Event := .frame c.bus.opWr reg c.bus.dirAllOut r.r0 r.r1 r.r2

/-- The start-up's events stand first in the trace, in the order of 44_startup.md R137, before any other event. -/
abbrev StartupOrder (s : State) : Prop :=
  (s.st = .initRstHigh → s.trace = []) ∧
    (s.st = .initRstLow → s.trace = (handshakeEvents s.cfg).take 2) ∧
    (s.st = .initRstRelease → s.trace = (handshakeEvents s.cfg).take 4) ∧
    (s.st = .initIodirLo → s.trace = handshakeEvents s.cfg) ∧
    (s.st = .initIodirHi → ∃ r, s.trace = handshakeEvents s.cfg ++ [dirFrame s.cfg s.cfg.bus.regDirLo r]) ∧
    (started s.st = true → ∃ r r' es, s.trace =
      handshakeEvents s.cfg ++ [dirFrame s.cfg s.cfg.bus.regDirLo r, dirFrame s.cfg s.cfg.bus.regDirHi r'] ++ es)

/-! ### The mode/reset action -/

/-- Which of the three writes, counted from 0, is the one of `PERIOD` (60_exceptions.md R157). -/
def ResetOrder.periodAt : ResetOrder → Nat
  | .periodDutyDir | .periodDirDuty => 0
  | .dutyPeriodDir | .dirPeriodDuty => 1
  | .dutyDirPeriod | .dirDutyPeriod => 2

/-- Which of the three writes is the one of `DUTY`. -/
def ResetOrder.dutyAt : ResetOrder → Nat
  | .dutyPeriodDir | .dutyDirPeriod => 0
  | .periodDutyDir | .dirDutyPeriod => 1
  | .periodDirDuty | .dirPeriodDuty => 2

/-- Which of the three writes is the one of `DIR`. -/
def ResetOrder.dirAt : ResetOrder → Nat
  | .dirPeriodDuty | .dirDutyPeriod => 0
  | .periodDirDuty | .dutyDirPeriod => 1
  | .periodDutyDir | .dutyPeriodDir => 2

/-- The fixed cycle of R157: Forward → Reverse → Stopped → Forward. -/
def dirAfterPress : Dir → Dir
  | .forward => .reverse
  | .reverse => .stopped
  | .stopped => .forward

/-! ### Runs -/

/-- n steps of the machine. -/
def runSteps : Nat → State → Host.Outcome State Fault Refusal
  | 0, s => .next s
  | n + 1, s =>
    match step s with
    | .next t => runSteps n t
    | .fault f => .fault f
    | .refused r => .refused r

/-- The meaning of i, n times over. -/
def execTimes (i : Instr) : Nat → State → Host.Outcome State Fault Refusal
  | 0, s => .next s
  | n + 1, s =>
    match exec i s with
    | .next t => execTimes i n t
    | .fault f => .fault f
    | .refused r => .refused r

/-! ### What an operation leaves unchanged -/

/-- The parameters, the control inputs, REF_ENV's state and the schedule. -/
abbrev KeepsEnvironment (s t : State) : Prop :=
  t.cfg = s.cfg ∧ t.dir = s.dir ∧ t.duty = s.duty ∧ t.period = s.period ∧ t.acc = s.acc ∧ t.pending = s.pending ∧
    t.sched = s.sched

/-- `ROW` and `PH`. -/
abbrev KeepsRow (s t : State) : Prop := t.row = s.row ∧ t.ph = s.ph

/-- `PORT_LO` and `PORT_HI`. -/
abbrev KeepsPorts (s t : State) : Prop := t.portLo = s.portLo ∧ t.portHi = s.portHi

/-- `HB` and `RST_N`. -/
abbrev KeepsLines (s t : State) : Prop := t.hb = s.hb ∧ t.rstN = s.rstN

/-- `TMR` and `SLEEP_MS`. -/
abbrev KeepsTimer (s t : State) : Prop := t.tmr = s.tmr ∧ t.sleepMs = s.sleepMs

/-- Every expander register, and DEV's answers to come. -/
abbrev KeepsExpander (s t : State) : Prop :=
  (∀ a, t.dev.read a = s.dev.read a ∧ devByte t a = devByte s a) ∧ t.devRd = s.devRd ∧ t.draws = s.draws

/-- Every PWM level. -/
abbrev KeepsLevels (s t : State) : Prop := ∀ k : Fin 5, t.level[k] = s.level[k]

/-- Everything but `ST`, `TMR`, the expander and the trace. -/
abbrev KeepsRegisters (s t : State) : Prop :=
  KeepsEnvironment s t ∧ KeepsRow s t ∧ KeepsPorts s t ∧ KeepsLines s t ∧ KeepsLevels s t ∧ t.idx = s.idx ∧
    t.sleepMs = s.sleepMs ∧ t.fault = s.fault

/-- One write frame has gone out: `{OP_WR, reg, data}` and its event, the expander register reg holds data, every other register
reads as before (20_memory.md R54, 30_encoding.md R67). -/
abbrev FrameWritten (reg data : Byte) (s t : State) : Prop :=
  t.dev.read reg.toNat = some data ∧ devByte t reg.toNat = data ∧
    (∀ a, a ≠ reg.toNat → t.dev.read a = s.dev.read a ∧ devByte t a = devByte s a) ∧ t.devRd = s.devRd ∧
    ∃ r0 r1 r2, t.trace = s.trace ++ [.frame s.cfg.bus.opWr reg data r0 r1 r2]

/-- One read frame has gone out: `{OP_RD, reg, 0x00}` and its event, followed by the events es; every register reads as before; r2,
the last byte received, is the byte `dev rd = v` set where one was set, and that byte is used up (30_encoding.md R67, R76). -/
abbrev FrameRead (reg r2 : Byte) (es : List Event) (s t : State) : Prop :=
  (∀ a, t.dev.read a = s.dev.read a ∧ devByte t a = devByte s a) ∧ (∀ v, s.devRd = some v → r2 = v) ∧ t.devRd = none ∧
    ∃ r0 r1, t.trace = s.trace ++ .frame s.cfg.bus.opRd reg 0x00#8 r0 r1 r2 :: es

end Sys2Proof.Machine
end

