-- ==== Sys2Proof/Certificates/Slice0/Obligations.lean ====
section
/-! DEFINITION. The statements for the provers: what the rules of spec/ say the machine does. -/

open Sys2Proof Sys2Proof.Machine

/-- O1. Words from the spec's encodings decode to the instructions they stand for (a byte-wide word read as a state code is
the model's choice, log entry 19).
State codes, direction codes and frames written out from 30_encoding.md decode to their rows of the opcode table; a read
frame whose third byte is not 0x00, a frame to a register no frame of R68 has, and the direction code 0b11 decode to nothing.
The table's word numbers do not say which format a word has: that formats are told apart by width, and that a word of 8 bits
is read as a state code (the clause decodeTableWord 8 0b1100), is a DESIGN CHOICE of the model, log entry 19; no rule gives
it.
30_encoding.md section 1, 30_encoding.md section 2, opcode_table.json. -/
def Obligations.SpecWordsDecode : Prop :=
  decodeTableWord 4 0b0000 = some .initRstHigh ∧ decodeTableWord 4 0b0101 = some .lookup ∧
    decodeTableWord 4 0b0110 = some .pwmSet ∧ decodeTableWord 8 0b1100 = some .advance ∧
    decodeTableWord 4 0b1111 = some .sleepWait ∧
    decodeTableWord 24 0x400000 = some .wrdirLo ∧ decodeTableWord 24 0x400100 = some .wrdirHi ∧
    decodeTableWord 24 0x401280 = some (.wrportLo 0x80) ∧ decodeTableWord 24 0x401303 = some (.wrportHi 0x03) ∧
    decodeTableWord 24 0x411200 = some .rdportLo ∧ decodeTableWord 24 0x411300 = some .rdportHi ∧
    decodeTableWord 24 0x411201 = none ∧ decodeTableWord 24 0x401400 = none ∧
    decodeTableWord 2 0b00 = some .advanceForward ∧ decodeTableWord 2 0b01 = some .advanceReverse ∧
    decodeTableWord 2 0b10 = some .advanceStopped ∧ decodeTableWord 2 0b11 = none

/-- O2. Decoding the encoding of any well-formed instruction gives it back.
30_encoding.md section 1, 30_encoding.md section 2. -/
def Obligations.DecodeOfEncodeIsTheInstruction : Prop :=
  ∀ b : BusConfig, b.framesDistinct = true → ∀ i : Instr, i.wf = true → decode b (encode b i) = .ok i

/-- O3. A code that decodes is the encoding of what it decodes to.
30_encoding.md section 1, 30_encoding.md section 2. -/
def Obligations.EncodeOfDecodeIsTheCode : Prop :=
  ∀ (b : BusConfig) (c : Code) (i : Instr), decode b c = .ok i → encode b i = c

/-- O4. Ternary codes are two's complement and a row holds phase k's code at bits [2k+1:2k].
R62, R65. -/
def Obligations.TernaryAndRowCodes : Prop :=
  (Tern.ofCode 0b01#2 = some .pos ∧ Tern.ofCode 0b00#2 = some .zero ∧ Tern.ofCode 0b11#2 = some .neg ∧
      Tern.ofCode 0b10#2 = none) ∧
    (∀ t : Tern, t.code.toInt = t.toInt) ∧
    (∀ (r : Row) (k : Fin 5), (rowCode r).extractLsb' (2 * k.val) 2 = r[k].code) ∧
    (∀ r : Row, rowOfCode (rowCode r) = some r) ∧
    rowCode #v[.neg, .zero, .pos, .pos, .zero] = 0x053#10

/-- O5. A phase table that fails a check is refused; one that passes is loaded entry by entry and the machine powers on with
it.
R81. -/
def Obligations.PhaseTableIsCheckedBeforeTheFirstStep : Prop :=
  ∀ t : TableCodes,
    ((t.length = 20 ∧ (∀ r ∈ t, r.length = 5) ∧ ∀ r ∈ t, ∀ c ∈ r, c ≠ 0b10#2) →
      ∃ p : PhaseTable, PhaseTable.ofCodes t = .ok p ∧
        (∀ (i : Fin 20) (k : Fin 5), p[i][k].code = (t.getD i.val []).getD k.val 0#2) ∧
        ∀ c : Config, c.wf = true →
          ∃ n sched, boot t c = .next (State.powerOn { c with phaseTable := p } n sched)) ∧
    (¬(t.length = 20 ∧ (∀ r ∈ t, r.length = 5) ∧ ∀ r ∈ t, ∀ c ∈ r, c ≠ 0b10#2) →
      ∃ e, PhaseTable.ofCodes t = .error e ∧ ∀ c : Config, boot t c = .refused (.illFormedConfig e))

/-- O6. A frame's bytes are its fields, sent byte 0 first and most significant bit first.
30_encoding.md section 2, 20_memory.md section 2. -/
def Obligations.FrameFieldsAndWireOrder : Prop :=
  ∀ b0 b1 b2 : Byte,
    frameB0 (frameWord b0 b1 b2) = b0 ∧ frameB1 (frameWord b0 b1 b2) = b1 ∧ frameB2 (frameWord b0 b1 b2) = b2 ∧
      (wireBits b0 b1 b2).length = 24 ∧
      ∀ i : Nat, i < 24 → (wireBits b0 b1 b2)[i]? = some ((frameWord b0 b1 b2).getLsbD (23 - i))

/-- O7. A step of the block runs the instruction its state code decodes to; with nothing scheduled the block or its timer
moves (log entry 5).
When the code in ST decodes to i and no fault is set, a step with nothing scheduled (and the block not held on an armed
timer) is exec of i, and a step that the schedule gives to the block is exec of i at the state with that item taken off the
schedule. With nothing scheduled, a block held on an armed timer sees the timer expire, and a faulted block answers its
fault. That an empty schedule gives the step to the block or to its timer is a DESIGN CHOICE of the model, log entry 5.
43_sequencer.md section 1, 10_state.md section 2. -/
def Obligations.StepRunsDecodedInstruction : Prop :=
  (∀ (s : State) (i : Instr), s.fault = none → decode s.cfg.bus (.st s.st.code) = .ok i →
    (s.sched = [] → holdsOnTimer s = false → step s = exec i s) ∧
      ∀ rest, s.sched = .seq :: rest → step s = exec i { s with sched := rest }) ∧
    (∀ (s : State) (ms : Nat), s.fault = none → waitsForTimer s.st = true → s.sched = [] → s.tmr = .armed ms →
      step s = .next { s with tmr := .expired }) ∧
    ∀ (s : State) (f : Fault), s.fault = some f → s.sched = [] → step s = .fault f

/-- O8. A state code or direction code placed by withFetchWord is what the very next step runs.
After placing a state code the next step is exec of the micro-operation it decodes to; after placing a direction code the
next step is ADVANCE by the arm it decodes to, which then moves on to HEARTBEAT. How a word is placed is the model's choice,
log entry 20.
30_encoding.md section 1, 43_sequencer.md section 2. -/
def Obligations.PlacedWordRunsNext : Prop :=
  ∀ (s : State) (w : Nat) (i : Instr),
    (decodeTableWord 4 w = some i → step (s.withFetchWord 4 w) = exec i (s.withFetchWord 4 w)) ∧
      (decodeTableWord 2 w = some i →
        ∃ t, exec i (s.withFetchWord 2 w) = .next t ∧ step (s.withFetchWord 2 w) = .next (t.goto .heartbeat))

/-- O9. Each frame row and each direction arm is what its micro-operation does before it moves on.
The two direction writes, the two port writes, the two reads and ADVANCE are the frame or arm row of the opcode table with
the operand the rule gives, followed by the compare of a read and the move to the next state. That the rows of frames and
arms mean the transaction or the arm alone is the model's choice, log entry 18.
30_encoding.md section 2, 42_port_codec.md section 3, 42_port_codec.md section 4, 44_startup.md, 43_sequencer.md section 1,
43_sequencer.md section 2. -/
def Obligations.MicroOperationsIssueTheirFramesAndArms : Prop :=
  ∀ s t : State,
    (s.tmr = .expired → exec .wrdirLo s.disarm = .next t → exec .initIodirLo s = .next (t.goto .initIodirHi)) ∧
      (exec .wrdirHi s = .next t → exec .initIodirHi s = .next (t.goto .lookup)) ∧
      (exec (.wrportLo s.portLo) s = .next t → exec .wrLo s = .next (t.goto .wrHi)) ∧
      (exec (.wrportHi s.portHi) s = .next t → exec .wrHi s = .next (t.goto .rdLo)) ∧
      (exec .rdportLo s = .next t →
        exec .rdLo s = .next ((t.verify s.cfg.bus.regPortLo s.portLo (readReply s).r2).goto .rdHi)) ∧
      (exec .rdportHi s = .next t →
        exec .rdHi s = .next ((t.verify s.cfg.bus.regPortHi s.portHi (readReply s).r2).goto .advance)) ∧
      ∀ d : Dir, s.dir = d.code → exec d.instr s = .next t → exec .advance s = .next (t.goto .heartbeat)

/-- O10. The next-state table, with its enabling conditions and the hold.
Without a fault: a step that is enabled and raises no fault goes to the state of R121's third column; a step whose timer
condition does not hold leaves the state as it is; while it holds, no scheduled step of any agent moves ST but a power cycle
(R178: all state is lost; log entry 25), and only a TMR step makes the timer Expired, with ST as it was. With a fault no step
of the block is enabled: a scheduled one answers the fault. What an empty schedule means is O7.
R121. -/
def Obligations.NextStateTable : Prop :=
  ∀ s : State,
    (s.fault = none → (waitsForTimer s.st = true → s.tmr = .expired) → (s.st = .lookup → s.idx.toNat < 20) →
      (s.st = .pwmSet → s.ph.toNat < 5) → (s.st = .advance → s.dir ≠ 0b11#2) →
      ∃ t, exec s.st.instr s = .next t ∧ t.fault = none ∧
        t.st = match s.st with
          | .initRstHigh => .initRstLow
          | .initRstLow => .initRstRelease
          | .initRstRelease => .initIodirLo
          | .initIodirLo => .initIodirHi
          | .initIodirHi => .lookup
          | .lookup => .pwmSet
          | .pwmSet => if s.ph.toNat < 4 then .pwmSet else .compose
          | .compose => .wrLo
          | .wrLo => .wrHi
          | .wrHi => .rdLo
          | .rdLo => .rdHi
          | .rdHi => .advance
          | .advance => .heartbeat
          | .heartbeat => .sleepArm
          | .sleepArm => .sleepWait
          | .sleepWait => .lookup) ∧
    (waitsForTimer s.st = true → s.tmr ≠ .expired → exec s.st.instr s = .next s) ∧
    (∀ a rest, s.sched = a :: rest → waitsForTimer s.st = true → s.tmr ≠ .expired → ∀ t, step s = .next t →
      (t.st = s.st ∨ a = .powerCycle) ∧ (t.tmr = .expired → a = .tmr ∧ t.st = s.st)) ∧
    ∀ f rest, s.fault = some f → s.sched = .seq :: rest → step s = .fault f

/-- O11. INIT_RST_HIGH drives the reset line high and arms the timer.
R131. -/
def Obligations.InitRstHighDrivesTheLineHigh : Prop :=
  ∀ s : State, ∃ t, exec .initRstHigh s = .next t ∧ t.rstN = true ∧ t.tmr = .armed s.cfg.tRstPreMs ∧
    t.trace = s.trace ++ [.line .rstN true, .timer s.cfg.tRstPreMs] ∧ t.st = .initRstLow ∧
    KeepsEnvironment s t ∧ KeepsRow s t ∧ KeepsPorts s t ∧ KeepsLevels s t ∧ KeepsExpander s t ∧ t.idx = s.idx ∧
    t.hb = s.hb ∧ t.sleepMs = s.sleepMs ∧ t.fault = s.fault

/-- O12. INIT_RST_LOW drives the reset line to 0 and INIT_RST_RELEASE back to 1, each after the timer's expiry.
R132, R133. -/
def Obligations.InitRstLowAndReleaseDriveTheLine : Prop :=
  ∀ s : State,
    (s.tmr = .expired →
      (∃ t, exec .initRstLow s = .next t ∧ t.rstN = false ∧ t.tmr = .armed s.cfg.tRstLowMs ∧
        t.trace = s.trace ++ [.line .rstN false, .timer s.cfg.tRstLowMs] ∧ t.st = .initRstRelease ∧
        KeepsEnvironment s t ∧ KeepsRow s t ∧ KeepsPorts s t ∧ KeepsLevels s t ∧ t.idx = s.idx ∧ t.hb = s.hb ∧
        t.sleepMs = s.sleepMs ∧ t.fault = s.fault ∧ t.devRd = s.devRd) ∧
      ∃ t, exec .initRstRelease s = .next t ∧ t.rstN = true ∧ t.tmr = .armed s.cfg.tRstPostMs ∧
        t.trace = s.trace ++ [.line .rstN true, .timer s.cfg.tRstPostMs] ∧ t.st = .initIodirLo ∧
        KeepsEnvironment s t ∧ KeepsRow s t ∧ KeepsPorts s t ∧ KeepsLevels s t ∧ KeepsExpander s t ∧ t.idx = s.idx ∧
        t.hb = s.hb ∧ t.sleepMs = s.sleepMs ∧ t.fault = s.fault) ∧
    (s.tmr ≠ .expired → exec .initRstLow s = .next s ∧ exec .initRstRelease s = .next s)

/-- O13. After INIT_RST_LOW no expander register has its written byte by right: each holds a fresh free byte (the model's
choice, log entry 10).
With the timer expired, after INIT_RST_LOW no expander register keeps a byte a frame wrote, and each holds a free byte of
this reset of the device, of which nothing is known: the line hardware-resets the expander, and what its registers then hold
is the device's business. This is the model's reading, log entry 10.
44_startup.md (R130), 60_exceptions.md section 6. -/
def Obligations.ResetLineLowLeavesNoRegisterValue : Prop :=
  ∀ s : State, s.tmr = .expired → ∃ t, exec .initRstLow s = .next t ∧
    ∀ a, t.dev.read a = none ∧ devByte t a = Config.freeRegister s.draws a

/-- O14. INIT_IODIR_LO and INIT_IODIR_HI write DIR_ALL_OUT to the two port-direction registers.
R134, R135. -/
def Obligations.DirectionRegisterWrites : Prop :=
  ∀ s : State,
    (s.tmr = .expired → ∃ t, exec .initIodirLo s = .next t ∧
      FrameWritten s.cfg.bus.regDirLo s.cfg.bus.dirAllOut s t ∧ t.tmr = .idle ∧ t.st = .initIodirHi ∧
      KeepsRegisters s t) ∧
    (s.tmr ≠ .expired → exec .initIodirLo s = .next s) ∧
    ∃ t, exec .initIodirHi s = .next t ∧ FrameWritten s.cfg.bus.regDirHi s.cfg.bus.dirAllOut s t ∧
      t.tmr = s.tmr ∧ t.st = .lookup ∧ KeepsRegisters s t

/-- O15. LOOKUP latches the row of the Step Index and starts the phase counter, or raises IDX_RANGE.
R82. -/
def Obligations.LookupLatchesTheRowOfTheIndex : Prop :=
  ∀ s : State,
    (∀ h : s.idx.toNat < 20, ∃ t, exec .lookup s = .next t ∧ t.row = s.cfg.phaseTable[s.idx.toNat] ∧ t.ph = 0 ∧
      t.st = .pwmSet ∧ t.trace = s.trace ∧ t.idx = s.idx ∧ t.fault = s.fault ∧
      KeepsEnvironment s t ∧ KeepsPorts s t ∧ KeepsLines s t ∧ KeepsTimer s t ∧ KeepsExpander s t ∧ KeepsLevels s t) ∧
    (20 ≤ s.idx.toNat → exec .lookup s = .next { s with fault := some (.idxRange s.idx) })

/-- O16. PWM_SET writes the level of phase PH: 0 for an off phase, the duty for a driven one.
R90. -/
def Obligations.PwmSetWritesOneLevel : Prop :=
  ∀ s : State,
    (∀ h : s.ph.toNat < 5, ∃ t, exec .pwmSet s = .next t ∧
      t.level[s.ph.toNat] = (if s.row[s.ph.toNat] = .zero then 0 else s.duty) ∧
      (∀ k : Fin 5, k.val ≠ s.ph.toNat → t.level[k] = s.level[k]) ∧
      t.trace = s.trace ++ [.pwm ⟨s.ph.toNat, h⟩ (if s.row[s.ph.toNat] = .zero then 0 else s.duty)] ∧
      (s.ph.toNat = 4 → t.ph = s.ph ∧ t.st = .compose) ∧
      (s.ph.toNat < 4 → t.ph.toNat = s.ph.toNat + 1 ∧ t.st = .pwmSet) ∧
      t.row = s.row ∧ t.idx = s.idx ∧ t.fault = s.fault ∧
      KeepsEnvironment s t ∧ KeepsPorts s t ∧ KeepsLines s t ∧ KeepsTimer s t ∧ KeepsExpander s t) ∧
    (5 ≤ s.ph.toNat → exec .pwmSet s = .next { s with fault := some (.phRange s.ph) })

/-- O17. level_for is 0 for an off phase and the duty for both directions; the port bit tells +1 from -1.
R91, R95. -/
def Obligations.LevelMapper : Prop :=
  ∀ d : Nat, levelFor .zero d = 0 ∧ levelFor .pos d = d ∧ levelFor .neg d = levelFor .pos d ∧
    on .pos = 1#1 ∧ on .neg = 0#1 ∧ on .zero = 0#1

/-- O18. Phase k's level goes to the PWM output PWM_CH[k] and to no other.
R93. -/
def Obligations.LevelGoesToThePhasesChannel : Prop :=
  ∀ s : State, s.cfg.pwmCh.toList.Nodup →
    (∀ k : Fin 5, levelAt s s.cfg.pwmCh[k] = some s.level[k]) ∧
    ∀ (h : s.ph.toNat < 5) (t : State), exec .pwmSet s = .next t →
      levelAt t s.cfg.pwmCh[s.ph.toNat] = some (levelFor s.row[s.ph.toNat] s.duty) ∧
      ∀ ch : PwmChan, ch ≠ s.cfg.pwmCh[s.ph.toNat] → levelAt t ch = levelAt s ch

/-- O19. COMPOSE sets pin 5 + k exactly for a phase k at +1, and clears every other pin.
R101, R107, R108. -/
def Obligations.ComposeSetsAPinForPlusOneOnly : Prop :=
  (∀ s : State, ∃ t, exec .compose s = .next t ∧
    (∀ k : Fin 5, pinBit t.portLo t.portHi (pinOf k) = decide (s.row[k] = .pos)) ∧
    (∀ p : Nat, p < 16 → (∀ k : Fin 5, pinOf k ≠ p) → pinBit t.portLo t.portHi p = false) ∧
    t.st = .wrLo ∧ t.trace = s.trace ∧ t.idx = s.idx ∧ t.fault = s.fault ∧
    KeepsEnvironment s t ∧ KeepsRow s t ∧ KeepsLines s t ∧ KeepsTimer s t ∧ KeepsExpander s t ∧ KeepsLevels s t) ∧
  ∀ s s' t t' : State, s.row = s'.row → exec .compose s = .next t → exec .compose s' = .next t' →
    t.portLo = t'.portLo ∧ t.portHi = t'.portHi

/-- O20. WR_LO and WR_HI send the port bytes to the two port registers.
R102, R103. -/
def Obligations.PortWriteFrames : Prop :=
  ∀ s : State,
    (∃ t, exec .wrLo s = .next t ∧ FrameWritten s.cfg.bus.regPortLo s.portLo s t ∧ t.st = .wrHi ∧ t.tmr = s.tmr ∧
      KeepsRegisters s t) ∧
    ∃ t, exec .wrHi s = .next t ∧ FrameWritten s.cfg.bus.regPortHi s.portHi s t ∧ t.st = .rdLo ∧ t.tmr = s.tmr ∧
      KeepsRegisters s t

/-- O21. RD_LO and RD_HI read the port registers back and report a byte that differs.
R104, R105. -/
def Obligations.VerificationReads : Prop :=
  ∀ s : State,
    (∃ t r2, exec .rdLo s = .next t ∧
      FrameRead s.cfg.bus.regPortLo r2
        (if r2 = s.portLo then [] else [.mismatch s.cfg.bus.regPortLo s.portLo r2]) s t ∧
      t.st = .rdHi ∧ t.tmr = s.tmr ∧ KeepsRegisters s t) ∧
    ∃ t r2, exec .rdHi s = .next t ∧
      FrameRead s.cfg.bus.regPortHi r2
        (if r2 = s.portHi then [] else [.mismatch s.cfg.bus.regPortHi s.portHi r2]) s t ∧
      t.st = .advance ∧ t.tmr = s.tmr ∧ KeepsRegisters s t

/-- O22. Each of the six frame rows completes as one bus transaction with the row's bytes.
From every state each frame of R68 completes: the four write frames set the addressed expander register to the data byte,
with every data byte for the two port writes, and the two read frames change no register; each emits its one Frame event and
changes nothing else. That a frame row means the transaction alone, ST unchanged, is the model's choice, log entry 18.
30_encoding.md section 2, 20_memory.md section 3. -/
def Obligations.FrameRowsAreOneBusTransaction : Prop :=
  ∀ s : State,
    (∃ t, exec .wrdirLo s = .next t ∧ FrameWritten s.cfg.bus.regDirLo s.cfg.bus.dirAllOut s t ∧ t.st = s.st ∧
      t.tmr = s.tmr ∧ KeepsRegisters s t) ∧
    (∃ t, exec .wrdirHi s = .next t ∧ FrameWritten s.cfg.bus.regDirHi s.cfg.bus.dirAllOut s t ∧ t.st = s.st ∧
      t.tmr = s.tmr ∧ KeepsRegisters s t) ∧
    (∀ data, ∃ t, exec (.wrportLo data) s = .next t ∧ FrameWritten s.cfg.bus.regPortLo data s t ∧ t.st = s.st ∧
      t.tmr = s.tmr ∧ KeepsRegisters s t) ∧
    (∀ data, ∃ t, exec (.wrportHi data) s = .next t ∧ FrameWritten s.cfg.bus.regPortHi data s t ∧ t.st = s.st ∧
      t.tmr = s.tmr ∧ KeepsRegisters s t) ∧
    (∃ t r2, exec .rdportLo s = .next t ∧ FrameRead s.cfg.bus.regPortLo r2 [] s t ∧ t.st = s.st ∧ t.tmr = s.tmr ∧
      KeepsRegisters s t) ∧
    ∃ t r2, exec .rdportHi s = .next t ∧ FrameRead s.cfg.bus.regPortHi r2 [] s t ∧ t.st = s.st ∧ t.tmr = s.tmr ∧
      KeepsRegisters s t

/-- O23. ADVANCE moves the Step Index by the Direction Mode, or raises DIR_CODE.
R122. -/
def Obligations.AdvanceMovesTheIndex : Prop :=
  ∀ s : State,
    (s.dir ≠ 0b11#2 → ∃ t, exec .advance s = .next t ∧
      (s.dir = 0b00#2 → t.idx.toNat = (s.idx.toNat + 1) % 20) ∧
      (s.dir = 0b01#2 → (t.idx.toNat : Int) = ((s.idx.toNat : Int) - 1 + 20) % 20) ∧
      (s.dir = 0b10#2 → t.idx = s.idx) ∧
      t.st = .heartbeat ∧ t.trace = s.trace ∧ t.fault = s.fault ∧ KeepsEnvironment s t ∧ KeepsRow s t ∧
      KeepsPorts s t ∧ KeepsLines s t ∧ KeepsTimer s t ∧ KeepsExpander s t ∧ KeepsLevels s t) ∧
    (s.dir = 0b11#2 → exec .advance s = .next { s with fault := some (.dirCode 0b11#2) })

/-- O24. Each direction arm moves the Step Index as the mux says, and changes nothing else.
From every state the three arm rows complete: Forward gives (IDX + 1) mod 20, Reverse (IDX - 1 + 20) mod 20, Stopped IDX,
with everything else unchanged, ST included. That an arm row leaves ST alone is the model's choice, log entry 18.
43_sequencer.md section 2, 30_encoding.md section 1. -/
def Obligations.DirectionArmsMoveTheIndex : Prop :=
  ∀ s : State,
    (∃ t, exec .advanceForward s = .next t ∧ t.idx.toNat = (s.idx.toNat + 1) % 20 ∧ t.st = s.st ∧ t.trace = s.trace ∧
      t.fault = s.fault ∧ KeepsEnvironment s t ∧ KeepsRow s t ∧ KeepsPorts s t ∧ KeepsLines s t ∧ KeepsTimer s t ∧
      KeepsExpander s t ∧ KeepsLevels s t) ∧
    (∃ t, exec .advanceReverse s = .next t ∧ (t.idx.toNat : Int) = ((s.idx.toNat : Int) - 1 + 20) % 20 ∧ t.st = s.st ∧
      t.trace = s.trace ∧ t.fault = s.fault ∧ KeepsEnvironment s t ∧ KeepsRow s t ∧ KeepsPorts s t ∧ KeepsLines s t ∧
      KeepsTimer s t ∧ KeepsExpander s t ∧ KeepsLevels s t) ∧
    exec .advanceStopped s = .next s

/-- O25. HEARTBEAT inverts HB and drives the line to the new value; after n of them from 0 it is n mod 2.
R123. -/
def Obligations.HeartbeatToggles : Prop :=
  (∀ s : State, ∃ t, exec .heartbeat s = .next t ∧ t.hb = !s.hb ∧ t.trace = s.trace ++ [.line .heartbeat (!s.hb)] ∧
    t.st = .sleepArm ∧ t.rstN = s.rstN ∧ t.idx = s.idx ∧ t.fault = s.fault ∧ KeepsEnvironment s t ∧ KeepsRow s t ∧
    KeepsPorts s t ∧ KeepsTimer s t ∧ KeepsExpander s t ∧ KeepsLevels s t) ∧
  ∀ (s : State) (n : Nat), s.hb = false → ∃ t, execTimes .heartbeat n s = .next t ∧ t.hb = decide (n % 2 = 1)

/-- O26. SLEEP_ARM samples PERIOD, arms the timer with it, and a later PERIOD write leaves the sleep alone.
R124. -/
def Obligations.SleepArmSamplesThePeriod : Prop :=
  (∀ s : State, ∃ t, exec .sleepArm s = .next t ∧ t.sleepMs = s.period ∧ t.tmr = .armed s.period ∧
    t.trace = s.trace ++ [.timer s.period] ∧ t.st = .sleepWait ∧ t.idx = s.idx ∧ t.fault = s.fault ∧
    KeepsEnvironment s t ∧ KeepsRow s t ∧ KeepsPorts s t ∧ KeepsLines s t ∧ KeepsExpander s t ∧ KeepsLevels s t) ∧
  ∀ (s : State) (p : Nat) (rest : List Action), s.sched = .ctl (.period p) :: rest →
    ∃ t, step s = .next t ∧ (p < 2 ^ s.cfg.periodW → t.period = p) ∧ KeepsTimer s t

/-- O27. SLEEP_WAIT holds until the timer expires, then goes to LOOKUP.
R125. -/
def Obligations.SleepWaitEndsAtExpiry : Prop :=
  ∀ s : State,
    (s.tmr = .expired → ∃ t, exec .sleepWait s = .next t ∧ t.tmr = .idle ∧ t.st = .lookup ∧ t.trace = s.trace ∧
      KeepsRegisters s t ∧ KeepsExpander s t) ∧
    (s.tmr ≠ .expired → exec .sleepWait s = .next s)

/-- O28. n advances move the index n places round the cycle of 20; Stopped never moves it; Reverse undoes Forward.
R126. -/
def Obligations.RepeatedAdvancesCycle : Prop :=
  ∀ s : State, s.idx.toNat < 20 →
    (∀ n, s.dir = 0b00#2 → ∃ t, execTimes .advance n s = .next t ∧ t.idx.toNat = (s.idx.toNat + n) % 20) ∧
    (∀ n : Nat, s.dir = 0b01#2 →
      ∃ t, execTimes .advance n s = .next t ∧ (t.idx.toNat : Int) = ((s.idx.toNat : Int) - n) % 20) ∧
    (∀ n, s.dir = 0b10#2 → ∃ t, execTimes .advance n s = .next t ∧ t.idx = s.idx) ∧
    (s.dir = 0b00#2 ∨ s.dir = 0b01#2 → ∃ t, execTimes .advance 20 s = .next t ∧ t.idx = s.idx) ∧
    ∀ t, s.dir = 0b00#2 → exec .advance s = .next t →
      ∃ u, exec .advance { t with dir := 0b01#2 } = .next u ∧ u.idx = s.idx

/-- O29. FAULT is set only by the three raises, stays until a power-on reset, and stops the block.
R34. -/
def Obligations.FaultIsStickyAndFinal : Prop :=
  State.reset.fault = none ∧
    (∀ (s t : State) (f : Fault), s.fault = none → step s = .next t → t.fault = some f →
      (s.st = .lookup ∧ 20 ≤ s.idx.toNat ∧ f = .idxRange s.idx) ∨ (s.st = .pwmSet ∧ 5 ≤ s.ph.toNat ∧ f = .phRange s.ph) ∨
        (s.st = .advance ∧ s.dir = 0b11#2 ∧ f = .dirCode s.dir)) ∧
    (∀ (s t : State) (f : Fault), s.fault = some f → step s = .next t →
      t.fault = some f ∨ ∃ rest, s.sched = .powerCycle :: rest ∧ t.fault = none) ∧
    ∀ (s : State) (f : Fault) (rest : List Action), s.fault = some f → s.sched = .seq :: rest → step s = .fault f

/-- O30. Each faulting operation checks before it has any effect.
R144. -/
def Obligations.RaisingStepHasNoOtherEffect : Prop :=
  ∀ (i : Instr) (s t : State), s.fault = none → exec i s = .next t → t.fault ≠ none →
    (i = .lookup ∨ i = .pwmSet ∨ i = .advance) ∧ t = { s with fault := t.fault }

/-- O31. Under an environment that keeps the contract no step of any run faults.
R143. -/
def Obligations.NoFaultUnderTheContract : Prop :=
  (∀ (c : Config) (n : Nat) (sched : List Action), (∀ a ∈ sched, a.meets c = true) →
    FaultFree (State.powerOn c n sched)) ∧
  ∀ s : State, FaultFree s → ∃ t, step s = .next t ∧ FaultFree t

/-- O32. Reset is the power-on of the built machine and meets every invariant, the inputs' contract where WRAP_MAX is at
least 10; a power cycle gives power-on.
State.reset is the power-on state of the built machine's configuration with nothing scheduled (log entries 2 and 28) and
meets FaultFree, TimerInStep, ResetLineInStep, DriveFollowsIndex, LinesAreOutputs, PortsReachExpander, OffPhasesAreOff,
UndrivenBitsClear, FramesInCatalogue, StartupOrder and ValuesFit, its expander memory is in canonical form, and it meets
InputsInContract where the free WRAP_MAX is at least 10 (log entry 17: for 5 to 9 the start-up duty is below 5). A scheduled
power cycle is one step that gives the power-on state from any state, a faulted one included; that it keeps the
configuration, the draw counter and the rest of the schedule is the model's, log entry 25.
70_reset_and_hazards.md section 1, 60_exceptions.md section 7, 10_state.md section 5. -/
def Obligations.ResetMeetsTheInvariants : Prop :=
  (State.reset = State.powerOn Config.site 0 [] ∧
    FaultFree State.reset ∧ TimerInStep State.reset ∧ ResetLineInStep State.reset ∧ DriveFollowsIndex State.reset ∧
    LinesAreOutputs State.reset ∧ PortsReachExpander State.reset ∧ OffPhasesAreOff State.reset ∧
    UndrivenBitsClear State.reset ∧ FramesInCatalogue State.reset ∧ StartupOrder State.reset ∧
    State.reset.dev.wf = true ∧ ValuesFit State.reset ∧
    (10 ≤ State.reset.cfg.wrapMax → InputsInContract State.reset)) ∧
  ∀ (s : State) (rest : List Action), s.sched = .powerCycle :: rest →
    step s = .next (State.powerOn s.cfg s.draws rest)

/-- O33. The timer runs or is expired exactly in the waiting states, no Arm meets a running timer, and a TMR step makes an
armed one Expired.
60_exceptions.md section 5, 10_state.md section 2, 00_scope.md section 4. -/
def Obligations.TimerStaysInStep : Prop :=
  (∀ s t : State, TimerInStep s → step s = .next t → TimerInStep t) ∧
    (∀ (s t : State) (ms : Nat), TimerInStep s → step s = .next t → t.tmr = .armed ms →
      t.tmr = s.tmr ∨ (s.tmr = .idle ∧ (s.st = .initRstHigh ∨ s.st = .sleepArm)) ∨
        (s.tmr = .expired ∧ (s.st = .initRstLow ∨ s.st = .initRstRelease))) ∧
    (∀ s : State, TimerInStep s → s.st = .initRstHigh ∨ s.st = .sleepArm → s.tmr = .idle) ∧
    ∀ (s : State) (rest : List Action), s.sched = .tmr :: rest →
      (∀ ms, s.tmr = .armed ms → step s = .next { s with sched := rest, tmr := .expired }) ∧
        (s.tmr = .idle ∨ s.tmr = .expired → step s = .next { s with sched := rest })

/-- O34. Only the three INIT_RST states write the reset line, and after INIT_RST_RELEASE it stays 1.
R33. -/
def Obligations.ResetLineStaysInStep : Prop :=
  (∀ s t : State, ResetLineInStep s → step s = .next t → ResetLineInStep t) ∧
    (∀ s t : State, step s = .next t → t.rstN ≠ s.rstN →
      s.st = .initRstHigh ∨ s.st = .initRstLow ∨ s.st = .initRstRelease ∨ ∃ rest, s.sched = .powerCycle :: rest) ∧
    ∀ s t : State, pastRelease s.st = true → step s = .next t →
      (pastRelease t.st = true ∧ (s.rstN = true → t.rstN = true)) ∨ ∃ rest, s.sched = .powerCycle :: rest

/-- O35. From LOOKUP to ADVANCE the row is the index's row, and outside the compose window the port bytes are the row's.
40_phase_table.md section 2, 42_port_codec.md section 1, 43_sequencer.md section 2. -/
def Obligations.DriveKeepsFollowingTheIndex : Prop :=
  ∀ s t : State, DriveFollowsIndex s → step s = .next t → DriveFollowsIndex t

/-- O36. No path reaches a port write before both port-direction registers are written.
70_reset_and_hazards.md section 3. -/
def Obligations.LinesStayOutputs : Prop :=
  (∀ s t : State, s.cfg.bus.framesDistinct = true → LinesAreOutputs s → step s = .next t → LinesAreOutputs t) ∧
    ∀ s : State, LinesAreOutputs s → s.st = .wrLo ∨ s.st = .wrHi →
      s.dev.read s.cfg.bus.regDirLo.toNat = some s.cfg.bus.dirAllOut ∧
        s.dev.read s.cfg.bus.regDirHi.toNat = some s.cfg.bus.dirAllOut

/-- O37. The trace begins with the reset line's rise, fall and rise, then the two direction frames, then all else.
R137. -/
def Obligations.StartupOrderIsKept : Prop :=
  ∀ s t : State, StartupOrder s → step s = .next t → StartupOrder t

/-- O38. The block never sends a frame other than the six of the catalogue.
R48. -/
def Obligations.OnlyCatalogueFramesAreEmitted : Prop :=
  (∀ s t : State, FramesInCatalogue s → step s = .next t → FramesInCatalogue t) ∧
    ∀ s : State, FramesInCatalogue s → ∀ b0 b1 b2 r0 r1 r2 : Byte, .frame b0 b1 b2 r0 r1 r2 ∈ s.trace →
      (b0 = s.cfg.bus.opWr ∨ b0 = s.cfg.bus.opRd) ∧
        (b1 = s.cfg.bus.regPortLo ∨ b1 = s.cfg.bus.regPortHi ∨ b1 = s.cfg.bus.regDirLo ∨ b1 = s.cfg.bus.regDirHi)

/-- O39. A de-energised phase of the row being driven is at level 0, whatever CTL writes.
41_pwm_mapper.md, 43_sequencer.md section 1. -/
def Obligations.OffPhasesStayOff : Prop :=
  ∀ s t : State, OffPhasesAreOff s → step s = .next t → OffPhasesAreOff t

/-- O40. The port bits no phase drives are always 0.
10_state.md section 4, 42_port_codec.md section 2. -/
def Obligations.UndrivenPortBitsStayClear : Prop :=
  ∀ s t : State, UndrivenBitsClear s → step s = .next t → UndrivenBitsClear t

/-- O41. The expander's register memory keeps its canonical form.
Every step keeps the expander memory sorted by address, without repeats, with 8-bit addresses only. The form is the model's
choice, log entry 10.
20_memory.md section 1, 20_memory.md section 3. -/
def Obligations.ExpanderMemoryStaysCanonical : Prop :=
  ∀ s t : State, s.dev.wf = true → step s = .next t → t.dev.wf = true

/-- O42. No operation writes the phase table.
R38. -/
def Obligations.PhaseTableIsImmutable : Prop :=
  ∀ s t : State, step s = .next t → t.cfg.phaseTable = s.cfg.phaseTable ∧ t.cfg = s.cfg

/-- O43. The trace only grows, by the block's own steps, and a power cycle empties it.
Every step leaves the trace as a beginning of the new one, or is a power cycle, which empties it; a scheduled step of an
environment agent adds no event. That a step with an empty schedule is the block's or its timer's is the model's choice, log
entry 5.
10_state.md section 5, 70_reset_and_hazards.md section 1. -/
def Obligations.TraceOnlyGrows : Prop :=
  ∀ s t : State, step s = .next t →
    (∃ es, t.trace = s.trace ++ es ∧ (es ≠ [] → s.sched = [] ∨ ∃ rest, s.sched = .seq :: rest)) ∨
      (∃ rest, s.sched = .powerCycle :: rest ∧ t.trace = [])

/-- O44. Only ADVANCE changes the Step Index.
A step after which IDX differs was the block's ADVANCE under Forward or Reverse, or a power cycle. That a step with an empty
schedule may be the block's is the model's choice, log entry 5.
10_state.md section 2. -/
def Obligations.OnlyAdvanceMovesTheIndex : Prop :=
  ∀ s t : State, step s = .next t → t.idx ≠ s.idx →
    (s.st = .advance ∧ (s.dir = 0b00#2 ∨ s.dir = 0b01#2) ∧ (s.sched = [] ∨ ∃ rest, s.sched = .seq :: rest)) ∨
      ∃ rest, s.sched = .powerCycle :: rest

/-- O45. No micro-operation, frame or arm writes a control input or REF_ENV's state.
10_state.md section 3, 60_exceptions.md section 4. -/
def Obligations.BlockNeverWritesItsInputs : Prop :=
  ∀ (i : Instr) (s t : State), exec i s = .next t → KeepsEnvironment s t

/-- O46. A CTL step writes one input whole and changes nothing else, at any point of the run.
Whatever the block is doing, a faulted block included, a scheduled CTL write gives the one input the value written and leaves
everything else as it was. DUTY and PERIOD hold DUTY_W and PERIOD_W bits; that a wider scheduled number leaves its low bits
there is the model's choice, log entry 3.
10_state.md section 3, 20_memory.md section 3, 60_exceptions.md section 4. -/
def Obligations.CtlStepWritesOneInputWhole : Prop :=
  ∀ (s : State) (rest : List Action),
    (∀ c, s.sched = .ctl (.dir c) :: rest → step s = .next { s with sched := rest, dir := c }) ∧
    (∀ d, s.sched = .ctl (.duty d) :: rest → step s = .next { s with sched := rest, duty := d % 2 ^ s.cfg.dutyW }) ∧
    ∀ p, s.sched = .ctl (.period p) :: rest → step s = .next { s with sched := rest, period := p % 2 ^ s.cfg.periodW }

/-- O47. Two phases of one iteration may carry different duties.
20_memory.md section 3, 41_pwm_mapper.md. -/
def Obligations.DutyMayChangeBetweenPhases : Prop :=
  ∀ (s : State) (d : Nat) (h : s.ph.toNat < 4), s.st = .pwmSet → s.fault = none →
    s.row[s.ph.toNat] ≠ .zero → s.row[s.ph.toNat + 1] ≠ .zero → s.sched = [.seq, .ctl (.duty d), .seq] →
    d < 2 ^ s.cfg.dutyW → ∃ t, runSteps 3 s = .next t ∧ t.level[s.ph.toNat] = s.duty ∧ t.level[s.ph.toNat + 1] = d

/-- O48. What the expander answers changes the trace and nothing else.
R106. -/
def Obligations.MismatchChangesNoState : Prop :=
  ∀ (s t u : State) (v w : Byte),
    (exec .rdLo { s with devRd := some v } = .next t → exec .rdLo { s with devRd := some w } = .next u →
      { t with trace := [] } = { u with trace := [] }) ∧
    (exec .rdHi { s with devRd := some v } = .next t → exec .rdHi { s with devRd := some w } = .next u →
      { t with trace := [] } = { u with trace := [] })

/-- O49. With an expander that echoes, the verification reads report nothing.
60_exceptions.md section 6, 42_port_codec.md section 3, 42_port_codec.md section 4. -/
def Obligations.EchoingDeviceIsNeverReported : Prop :=
  (∀ s t : State, s.cfg.bus.framesDistinct = true → PortsReachExpander s → step s = .next t → PortsReachExpander t) ∧
    ∀ s t : State, PortsReachExpander s →
      (s.st = .rdLo → DevEcho s s.cfg.bus.regPortLo → exec .rdLo s = .next t →
        ∃ r0 r1, t.trace = s.trace ++ [.frame s.cfg.bus.opRd s.cfg.bus.regPortLo 0x00#8 r0 r1 s.portLo]) ∧
      (s.st = .rdHi → DevEcho s s.cfg.bus.regPortHi → exec .rdHi s = .next t →
        ∃ r0 r1, t.trace = s.trace ++ [.frame s.cfg.bus.opRd s.cfg.bus.regPortHi 0x00#8 r0 r1 s.portHi])

/-- O50. From power-on with nothing scheduled, eight steps run the start-up and reach the first LOOKUP with IDX 0.
For every configuration: after the five start-up states and the three expiries between them, ST is LOOKUP, IDX is 0, no PWM
level has changed, the timer is Idle, and the trace is the handshake followed by the two direction frames. That the timer
expires at the next step when nothing is scheduled is the model's choice, log entry 5.
44_startup.md, 70_reset_and_hazards.md section 1. -/
def Obligations.StartupRun : Prop :=
  ∀ (c : Config) (n : Nat), ∃ t r r', runSteps 8 (State.powerOn c n []) = .next t ∧ t.st = .lookup ∧ t.idx = 0 ∧
    t.tmr = .idle ∧ t.fault = none ∧ t.rstN = true ∧ t.hb = false ∧ KeepsLevels (State.powerOn c n []) t ∧
    t.trace = handshakeEvents c ++ [dirFrame c c.bus.regDirLo r, dirFrame c c.bus.regDirHi r']

/-- O51. One whole iteration: drive the row, verify, advance, toggle, sleep, in every direction mode.
From every state at LOOKUP with IDX below 20, a legal direction, the timer Idle, no fault and nothing scheduled, sixteen
steps (fifteen of the block and the timer's expiry) return to LOOKUP: all five levels are those of the row, the trace gains
the five Pwm events, the two write frames, the two read frames each with its report where the byte differs, the heartbeat
line and the sleep, in that order; the index has moved by the direction and HB is inverted. Stopped drives like the others.
That the timer expires at the next step when nothing is scheduled is the model's choice, log entry 5.
43_sequencer.md section 1, 43_sequencer.md section 2, 43_sequencer.md section 3, 41_pwm_mapper.md, 42_port_codec.md section
1, 42_port_codec.md section 3, 42_port_codec.md section 4. -/
def Obligations.IterationRun : Prop :=
  ∀ (s : State) (d : Dir) (h : s.idx.toNat < 20), s.st = .lookup → s.dir = d.code → s.tmr = .idle → s.fault = none →
    s.sched = [] →
    ∃ (t : State) (a b : Reply) (lo hi : Reply), runSteps 16 s = .next t ∧
      t.st = .lookup ∧ t.row = s.cfg.phaseTable[s.idx.toNat] ∧ t.portLo = portLoOf t.row ∧ t.portHi = portHiOf t.row ∧
      (∀ k : Fin 5, t.level[k] = levelFor t.row[k] s.duty) ∧ t.idx = nextIndex d s.idx ∧ t.hb = !s.hb ∧
      t.sleepMs = s.period ∧ t.tmr = .idle ∧ t.fault = none ∧
      t.trace = s.trace ++
        [.pwm 0 t.level[0], .pwm 1 t.level[1], .pwm 2 t.level[2], .pwm 3 t.level[3], .pwm 4 t.level[4],
          .frame s.cfg.bus.opWr s.cfg.bus.regPortLo t.portLo a.r0 a.r1 a.r2,
          .frame s.cfg.bus.opWr s.cfg.bus.regPortHi t.portHi b.r0 b.r1 b.r2,
          .frame s.cfg.bus.opRd s.cfg.bus.regPortLo 0x00#8 lo.r0 lo.r1 lo.r2] ++
        (if lo.r2 = t.portLo then [] else [.mismatch s.cfg.bus.regPortLo t.portLo lo.r2]) ++
        [.frame s.cfg.bus.opRd s.cfg.bus.regPortHi 0x00#8 hi.r0 hi.r1 hi.r2] ++
        (if hi.r2 = t.portHi then [] else [.mismatch s.cfg.bus.regPortHi t.portHi hi.r2]) ++
        [.line .heartbeat (!s.hb), .timer s.period]

/-- O52. Power-on reset gives every block register its reset value, makes the timer Idle and empties the trace.
R180. -/
def Obligations.PowerOnValues : Prop :=
  ∀ (c : Config) (n : Nat) (sched : List Action),
    (State.powerOn c n sched).st = .initRstHigh ∧ (State.powerOn c n sched).idx = 0 ∧
      (State.powerOn c n sched).row = #v[.zero, .zero, .zero, .zero, .zero] ∧ (State.powerOn c n sched).ph = 0 ∧
      (State.powerOn c n sched).portLo = 0 ∧ (State.powerOn c n sched).portHi = 0 ∧
      (State.powerOn c n sched).hb = false ∧ (State.powerOn c n sched).sleepMs = 0 ∧
      (State.powerOn c n sched).rstN = true ∧ (State.powerOn c n sched).fault = none ∧
      (State.powerOn c n sched).tmr = .idle ∧ (State.powerOn c n sched).trace = []

/-- O53. CTL's start-up values are Forward, half of WRAP_MAX, the default period, and ACC 5.
R152. -/
def Obligations.StartupInputs : Prop :=
  ∀ (c : Config) (n : Nat) (sched : List Action),
    Dir.ofCode (State.powerOn c n sched).dir = some .forward ∧
      (State.powerOn c n sched).duty = c.wrapMax / 2 ∧
      (State.powerOn c n sched).period = c.defaultPeriodMs ∧ (State.powerOn c n sched).acc = 5

/-- O54. REF_ENV honours the first action of the priority order that an active line asks for.
For every configuration and snapshot, an action is honoured if and only if an active input line asks for it and no action
that stands before it in BTN_PRIO is asked for. Which line asks for which action is the parameter of log entry 15.
60_exceptions.md section 4. -/
def Obligations.OneActionIsHonouredByPriority : Prop :=
  ∀ (c : Config) (snap : Vector Bool 5) (a : BtnAction), c.wf = true →
    (honoured c snap = some a ↔
      (∃ k : Fin 5, snap[k] = true ∧ c.btnMap[k] = a) ∧
        ∀ pre post, c.btnPrio = pre ++ a :: post → ∀ b ∈ pre, ∀ k : Fin 5, snap[k] = true → c.btnMap[k] ≠ b)

/-- O55. A period action adjusts PERIOD by ACC, clamps it, and grows ACC by 5.
R155. -/
def Obligations.PeriodActionClampsAndAccelerates : Prop :=
  ∀ (s : State) (snap : Vector Bool 5) (press : Bool) (order : ResetOrder) (rest : List Action), s.cfg.wf = true →
    s.pending = [] → s.sched = .tick snap press order :: .ctlNext :: rest →
    (honoured s.cfg snap = some .periodUp → ∃ t, runSteps 2 s = .next t ∧
      (t.period : Int) = clampInt s.cfg.msMin s.cfg.msMax (s.period + s.acc) ∧
      t.acc = s.acc + 5 ∧ t.duty = s.duty ∧ t.dir = s.dir ∧ t.pending = []) ∧
    (honoured s.cfg snap = some .periodDown → ∃ t, runSteps 2 s = .next t ∧
      (t.period : Int) = clampInt s.cfg.msMin s.cfg.msMax (s.period - s.acc) ∧
      t.acc = s.acc + 5 ∧ t.duty = s.duty ∧ t.dir = s.dir ∧ t.pending = [])

/-- O56. A duty action adjusts DUTY by ACC, clamps it to [5, WRAP_MAX], and grows ACC by 5.
R156. -/
def Obligations.DutyActionClampsAndAccelerates : Prop :=
  ∀ (s : State) (snap : Vector Bool 5) (press : Bool) (order : ResetOrder) (rest : List Action), s.cfg.wf = true →
    s.pending = [] → s.sched = .tick snap press order :: .ctlNext :: rest →
    (honoured s.cfg snap = some .dutyUp → ∃ t, runSteps 2 s = .next t ∧
      (t.duty : Int) = clampInt 5 s.cfg.wrapMax (s.duty + s.acc) ∧
      t.acc = s.acc + 5 ∧ t.period = s.period ∧ t.dir = s.dir ∧ t.pending = []) ∧
    (honoured s.cfg snap = some .dutyDown → ∃ t, runSteps 2 s = .next t ∧
      (t.duty : Int) = clampInt 5 s.cfg.wrapMax (s.duty - s.acc) ∧
      t.acc = s.acc + 5 ∧ t.period = s.period ∧ t.dir = s.dir ∧ t.pending = [])

/-- O57. A press of the mode/reset action makes its three writes as three CTL steps, in each of the six orders.
From every state with a legal direction, a configuration that keeps R10 and REF_ENV not at work, a tick with a press of the
mode/reset action (the tick's input `press`, log entry 14, says that the active line counts as a press) changes no input and
leaves exactly the three writes of R157 still to make, in the tick's order; REF_ENV then makes them one a step: after n of
the three steps PERIOD is DEFAULT_PERIOD_MS, DUTY is floor(WRAP_MAX / 2) and DIR is the next mode of the cycle Forward,
Reverse, Stopped, Forward, each if its write is among the first n of that order, and as before if not.
R157. -/
def Obligations.ModeResetInEveryOrder : Prop :=
  ∀ (s : State) (snap : Vector Bool 5) (order : ResetOrder) (rest : List Action) (d : Dir), s.cfg.wf = true →
    s.pending = [] → s.dir = d.code → honoured s.cfg snap = some .modeReset →
    s.sched = .tick snap true order :: .ctlNext :: .ctlNext :: .ctlNext :: rest →
    (∃ t, runSteps 1 s = .next t ∧
      t.pending = match order with
        | .periodDutyDir => [.period s.cfg.defaultPeriodMs, .duty (s.cfg.wrapMax / 2), .dir (dirAfterPress d).code]
        | .periodDirDuty => [.period s.cfg.defaultPeriodMs, .dir (dirAfterPress d).code, .duty (s.cfg.wrapMax / 2)]
        | .dutyPeriodDir => [.duty (s.cfg.wrapMax / 2), .period s.cfg.defaultPeriodMs, .dir (dirAfterPress d).code]
        | .dutyDirPeriod => [.duty (s.cfg.wrapMax / 2), .dir (dirAfterPress d).code, .period s.cfg.defaultPeriodMs]
        | .dirPeriodDuty => [.dir (dirAfterPress d).code, .period s.cfg.defaultPeriodMs, .duty (s.cfg.wrapMax / 2)]
        | .dirDutyPeriod => [.dir (dirAfterPress d).code, .duty (s.cfg.wrapMax / 2), .period s.cfg.defaultPeriodMs]) ∧
    ∀ n : Nat, n ≤ 3 → ∃ t, runSteps (n + 1) s = .next t ∧ t.pending.length = 3 - n ∧
      t.period = (if order.periodAt < n then s.cfg.defaultPeriodMs else s.period) ∧
      t.duty = (if order.dutyAt < n then s.cfg.wrapMax / 2 else s.duty) ∧
      t.dir = (if order.dirAt < n then dirAfterPress d else d).code

/-- O58. A tick with no input active returns the accumulator to 5 and changes no input.
R158. -/
def Obligations.ReleasedButtonsResetTheAccumulator : Prop :=
  ∀ (s : State) (press : Bool) (order : ResetOrder) (rest : List Action), s.pending = [] →
    s.sched = .tick #v[false, false, false, false, false] press order :: rest →
    ∃ t, step s = .next t ∧ t.acc = 5 ∧ t.dir = s.dir ∧ t.duty = s.duty ∧ t.period = s.period ∧ t.pending = []

/-- O59. A tick while REF_ENV is still at its writes does nothing.
60_exceptions.md section 4. -/
def Obligations.RefEnvIsNotReentrant : Prop :=
  ∀ (s : State) (snap : Vector Bool 5) (press : Bool) (order : ResetOrder) (rest : List Action), s.pending ≠ [] →
    s.sched = .tick snap press order :: rest → step s = .next { s with sched := rest }

/-- O60. With REF_ENV and any contract-keeping CTL the inputs stay in their bounds; whatever CTL writes, every value keeps
its width.
Every step of every agent keeps InputsInContract: DIR is a legal code, DUTY is in [5, WRAP_MAX] and PERIOD in [MS_MIN,
MS_MAX], for a well-formed configuration with WRAP_MAX of at least 10 (log entry 17 says why 10). And every step, with a CTL
that keeps no contract too, keeps ValuesFit: DUTY and the five levels are below 2^DUTY_W, PERIOD and SLEEP_MS below
2^PERIOD_W (log entry 3).
60_exceptions.md section 4, 95_test_vectors.md section 1, 10_state.md section 3, 00_scope.md section 4. -/
def Obligations.InputsStayInContract : Prop :=
  (∀ s t : State, InputsInContract s → step s = .next t → InputsInContract t) ∧
    ∀ s t : State, ValuesFit s → step s = .next t → ValuesFit t
end

