-- ==== Sys2Proof/Laws/State.lean ====
section
/-! SUPPORT. One lemma per field per named update of State, each true by rfl, so that no proof unfolds an update. -/

namespace Sys2Proof.Machine

variable (s : State)

/-! #### goto -/

@[simp] theorem State.goto_cfg (x : FsmState) : (s.goto x).cfg = s.cfg := rfl
@[simp] theorem State.goto_st (x : FsmState) : (s.goto x).st = x := rfl
@[simp] theorem State.goto_idx (x : FsmState) : (s.goto x).idx = s.idx := rfl
@[simp] theorem State.goto_row (x : FsmState) : (s.goto x).row = s.row := rfl
@[simp] theorem State.goto_ph (x : FsmState) : (s.goto x).ph = s.ph := rfl
@[simp] theorem State.goto_portLo (x : FsmState) : (s.goto x).portLo = s.portLo := rfl
@[simp] theorem State.goto_portHi (x : FsmState) : (s.goto x).portHi = s.portHi := rfl
@[simp] theorem State.goto_hb (x : FsmState) : (s.goto x).hb = s.hb := rfl
@[simp] theorem State.goto_sleepMs (x : FsmState) : (s.goto x).sleepMs = s.sleepMs := rfl
@[simp] theorem State.goto_rstN (x : FsmState) : (s.goto x).rstN = s.rstN := rfl
@[simp] theorem State.goto_fault (x : FsmState) : (s.goto x).fault = s.fault := rfl
@[simp] theorem State.goto_dir (x : FsmState) : (s.goto x).dir = s.dir := rfl
@[simp] theorem State.goto_duty (x : FsmState) : (s.goto x).duty = s.duty := rfl
@[simp] theorem State.goto_period (x : FsmState) : (s.goto x).period = s.period := rfl
@[simp] theorem State.goto_tmr (x : FsmState) : (s.goto x).tmr = s.tmr := rfl
@[simp] theorem State.goto_level (x : FsmState) : (s.goto x).level = s.level := rfl
@[simp] theorem State.goto_dev (x : FsmState) : (s.goto x).dev = s.dev := rfl
@[simp] theorem State.goto_trace (x : FsmState) : (s.goto x).trace = s.trace := rfl
@[simp] theorem State.goto_acc (x : FsmState) : (s.goto x).acc = s.acc := rfl
@[simp] theorem State.goto_pending (x : FsmState) : (s.goto x).pending = s.pending := rfl
@[simp] theorem State.goto_devDraw (x : FsmState) : (s.goto x).devDraw = s.devDraw := rfl
@[simp] theorem State.goto_devRd (x : FsmState) : (s.goto x).devRd = s.devRd := rfl
@[simp] theorem State.goto_draws (x : FsmState) : (s.goto x).draws = s.draws := rfl
@[simp] theorem State.goto_sched (x : FsmState) : (s.goto x).sched = s.sched := rfl

/-! #### emit -/

@[simp] theorem State.emit_cfg (e : Event) : (s.emit e).cfg = s.cfg := rfl
@[simp] theorem State.emit_st (e : Event) : (s.emit e).st = s.st := rfl
@[simp] theorem State.emit_idx (e : Event) : (s.emit e).idx = s.idx := rfl
@[simp] theorem State.emit_row (e : Event) : (s.emit e).row = s.row := rfl
@[simp] theorem State.emit_ph (e : Event) : (s.emit e).ph = s.ph := rfl
@[simp] theorem State.emit_portLo (e : Event) : (s.emit e).portLo = s.portLo := rfl
@[simp] theorem State.emit_portHi (e : Event) : (s.emit e).portHi = s.portHi := rfl
@[simp] theorem State.emit_hb (e : Event) : (s.emit e).hb = s.hb := rfl
@[simp] theorem State.emit_sleepMs (e : Event) : (s.emit e).sleepMs = s.sleepMs := rfl
@[simp] theorem State.emit_rstN (e : Event) : (s.emit e).rstN = s.rstN := rfl
@[simp] theorem State.emit_fault (e : Event) : (s.emit e).fault = s.fault := rfl
@[simp] theorem State.emit_dir (e : Event) : (s.emit e).dir = s.dir := rfl
@[simp] theorem State.emit_duty (e : Event) : (s.emit e).duty = s.duty := rfl
@[simp] theorem State.emit_period (e : Event) : (s.emit e).period = s.period := rfl
@[simp] theorem State.emit_tmr (e : Event) : (s.emit e).tmr = s.tmr := rfl
@[simp] theorem State.emit_level (e : Event) : (s.emit e).level = s.level := rfl
@[simp] theorem State.emit_dev (e : Event) : (s.emit e).dev = s.dev := rfl
@[simp] theorem State.emit_trace (e : Event) : (s.emit e).trace = s.trace ++ [e] := rfl
@[simp] theorem State.emit_acc (e : Event) : (s.emit e).acc = s.acc := rfl
@[simp] theorem State.emit_pending (e : Event) : (s.emit e).pending = s.pending := rfl
@[simp] theorem State.emit_devDraw (e : Event) : (s.emit e).devDraw = s.devDraw := rfl
@[simp] theorem State.emit_devRd (e : Event) : (s.emit e).devRd = s.devRd := rfl
@[simp] theorem State.emit_draws (e : Event) : (s.emit e).draws = s.draws := rfl
@[simp] theorem State.emit_sched (e : Event) : (s.emit e).sched = s.sched := rfl

/-! #### arm -/

@[simp] theorem State.arm_cfg (ms : Nat) : (s.arm ms).cfg = s.cfg := rfl
@[simp] theorem State.arm_st (ms : Nat) : (s.arm ms).st = s.st := rfl
@[simp] theorem State.arm_idx (ms : Nat) : (s.arm ms).idx = s.idx := rfl
@[simp] theorem State.arm_row (ms : Nat) : (s.arm ms).row = s.row := rfl
@[simp] theorem State.arm_ph (ms : Nat) : (s.arm ms).ph = s.ph := rfl
@[simp] theorem State.arm_portLo (ms : Nat) : (s.arm ms).portLo = s.portLo := rfl
@[simp] theorem State.arm_portHi (ms : Nat) : (s.arm ms).portHi = s.portHi := rfl
@[simp] theorem State.arm_hb (ms : Nat) : (s.arm ms).hb = s.hb := rfl
@[simp] theorem State.arm_sleepMs (ms : Nat) : (s.arm ms).sleepMs = s.sleepMs := rfl
@[simp] theorem State.arm_rstN (ms : Nat) : (s.arm ms).rstN = s.rstN := rfl
@[simp] theorem State.arm_fault (ms : Nat) : (s.arm ms).fault = s.fault := rfl
@[simp] theorem State.arm_dir (ms : Nat) : (s.arm ms).dir = s.dir := rfl
@[simp] theorem State.arm_duty (ms : Nat) : (s.arm ms).duty = s.duty := rfl
@[simp] theorem State.arm_period (ms : Nat) : (s.arm ms).period = s.period := rfl
@[simp] theorem State.arm_tmr (ms : Nat) : (s.arm ms).tmr = .armed ms := rfl
@[simp] theorem State.arm_level (ms : Nat) : (s.arm ms).level = s.level := rfl
@[simp] theorem State.arm_dev (ms : Nat) : (s.arm ms).dev = s.dev := rfl
@[simp] theorem State.arm_trace (ms : Nat) : (s.arm ms).trace = s.trace ++ [.timer ms] := rfl
@[simp] theorem State.arm_acc (ms : Nat) : (s.arm ms).acc = s.acc := rfl
@[simp] theorem State.arm_pending (ms : Nat) : (s.arm ms).pending = s.pending := rfl
@[simp] theorem State.arm_devDraw (ms : Nat) : (s.arm ms).devDraw = s.devDraw := rfl
@[simp] theorem State.arm_devRd (ms : Nat) : (s.arm ms).devRd = s.devRd := rfl
@[simp] theorem State.arm_draws (ms : Nat) : (s.arm ms).draws = s.draws := rfl
@[simp] theorem State.arm_sched (ms : Nat) : (s.arm ms).sched = s.sched := rfl

/-! #### disarm -/

@[simp] theorem State.disarm_cfg : (s.disarm).cfg = s.cfg := rfl
@[simp] theorem State.disarm_st : (s.disarm).st = s.st := rfl
@[simp] theorem State.disarm_idx : (s.disarm).idx = s.idx := rfl
@[simp] theorem State.disarm_row : (s.disarm).row = s.row := rfl
@[simp] theorem State.disarm_ph : (s.disarm).ph = s.ph := rfl
@[simp] theorem State.disarm_portLo : (s.disarm).portLo = s.portLo := rfl
@[simp] theorem State.disarm_portHi : (s.disarm).portHi = s.portHi := rfl
@[simp] theorem State.disarm_hb : (s.disarm).hb = s.hb := rfl
@[simp] theorem State.disarm_sleepMs : (s.disarm).sleepMs = s.sleepMs := rfl
@[simp] theorem State.disarm_rstN : (s.disarm).rstN = s.rstN := rfl
@[simp] theorem State.disarm_fault : (s.disarm).fault = s.fault := rfl
@[simp] theorem State.disarm_dir : (s.disarm).dir = s.dir := rfl
@[simp] theorem State.disarm_duty : (s.disarm).duty = s.duty := rfl
@[simp] theorem State.disarm_period : (s.disarm).period = s.period := rfl
@[simp] theorem State.disarm_tmr : (s.disarm).tmr = .idle := rfl
@[simp] theorem State.disarm_level : (s.disarm).level = s.level := rfl
@[simp] theorem State.disarm_dev : (s.disarm).dev = s.dev := rfl
@[simp] theorem State.disarm_trace : (s.disarm).trace = s.trace := rfl
@[simp] theorem State.disarm_acc : (s.disarm).acc = s.acc := rfl
@[simp] theorem State.disarm_pending : (s.disarm).pending = s.pending := rfl
@[simp] theorem State.disarm_devDraw : (s.disarm).devDraw = s.devDraw := rfl
@[simp] theorem State.disarm_devRd : (s.disarm).devRd = s.devRd := rfl
@[simp] theorem State.disarm_draws : (s.disarm).draws = s.draws := rfl
@[simp] theorem State.disarm_sched : (s.disarm).sched = s.sched := rfl

/-! #### driveRstN -/

@[simp] theorem State.driveRstN_cfg (b : Bool) : (s.driveRstN b).cfg = s.cfg := rfl
@[simp] theorem State.driveRstN_st (b : Bool) : (s.driveRstN b).st = s.st := rfl
@[simp] theorem State.driveRstN_idx (b : Bool) : (s.driveRstN b).idx = s.idx := rfl
@[simp] theorem State.driveRstN_row (b : Bool) : (s.driveRstN b).row = s.row := rfl
@[simp] theorem State.driveRstN_ph (b : Bool) : (s.driveRstN b).ph = s.ph := rfl
@[simp] theorem State.driveRstN_portLo (b : Bool) : (s.driveRstN b).portLo = s.portLo := rfl
@[simp] theorem State.driveRstN_portHi (b : Bool) : (s.driveRstN b).portHi = s.portHi := rfl
@[simp] theorem State.driveRstN_hb (b : Bool) : (s.driveRstN b).hb = s.hb := rfl
@[simp] theorem State.driveRstN_sleepMs (b : Bool) : (s.driveRstN b).sleepMs = s.sleepMs := rfl
@[simp] theorem State.driveRstN_rstN (b : Bool) : (s.driveRstN b).rstN = b := rfl
@[simp] theorem State.driveRstN_fault (b : Bool) : (s.driveRstN b).fault = s.fault := rfl
@[simp] theorem State.driveRstN_dir (b : Bool) : (s.driveRstN b).dir = s.dir := rfl
@[simp] theorem State.driveRstN_duty (b : Bool) : (s.driveRstN b).duty = s.duty := rfl
@[simp] theorem State.driveRstN_period (b : Bool) : (s.driveRstN b).period = s.period := rfl
@[simp] theorem State.driveRstN_tmr (b : Bool) : (s.driveRstN b).tmr = s.tmr := rfl
@[simp] theorem State.driveRstN_level (b : Bool) : (s.driveRstN b).level = s.level := rfl
@[simp] theorem State.driveRstN_dev (b : Bool) : (s.driveRstN b).dev = (if b then s.dev else []) := rfl
@[simp] theorem State.driveRstN_trace (b : Bool) : (s.driveRstN b).trace = s.trace ++ [.line .rstN b] := rfl
@[simp] theorem State.driveRstN_acc (b : Bool) : (s.driveRstN b).acc = s.acc := rfl
@[simp] theorem State.driveRstN_pending (b : Bool) : (s.driveRstN b).pending = s.pending := rfl
@[simp] theorem State.driveRstN_devDraw (b : Bool) : (s.driveRstN b).devDraw = if b then s.devDraw else s.draws := rfl
@[simp] theorem State.driveRstN_devRd (b : Bool) : (s.driveRstN b).devRd = s.devRd := rfl
@[simp] theorem State.driveRstN_draws (b : Bool) : (s.driveRstN b).draws = if b then s.draws else s.draws + 1 := rfl
@[simp] theorem State.driveRstN_sched (b : Bool) : (s.driveRstN b).sched = s.sched := rfl

/-! #### driveHeartbeat -/

@[simp] theorem State.driveHeartbeat_cfg (b : Bool) : (s.driveHeartbeat b).cfg = s.cfg := rfl
@[simp] theorem State.driveHeartbeat_st (b : Bool) : (s.driveHeartbeat b).st = s.st := rfl
@[simp] theorem State.driveHeartbeat_idx (b : Bool) : (s.driveHeartbeat b).idx = s.idx := rfl
@[simp] theorem State.driveHeartbeat_row (b : Bool) : (s.driveHeartbeat b).row = s.row := rfl
@[simp] theorem State.driveHeartbeat_ph (b : Bool) : (s.driveHeartbeat b).ph = s.ph := rfl
@[simp] theorem State.driveHeartbeat_portLo (b : Bool) : (s.driveHeartbeat b).portLo = s.portLo := rfl
@[simp] theorem State.driveHeartbeat_portHi (b : Bool) : (s.driveHeartbeat b).portHi = s.portHi := rfl
@[simp] theorem State.driveHeartbeat_hb (b : Bool) : (s.driveHeartbeat b).hb = b := rfl
@[simp] theorem State.driveHeartbeat_sleepMs (b : Bool) : (s.driveHeartbeat b).sleepMs = s.sleepMs := rfl
@[simp] theorem State.driveHeartbeat_rstN (b : Bool) : (s.driveHeartbeat b).rstN = s.rstN := rfl
@[simp] theorem State.driveHeartbeat_fault (b : Bool) : (s.driveHeartbeat b).fault = s.fault := rfl
@[simp] theorem State.driveHeartbeat_dir (b : Bool) : (s.driveHeartbeat b).dir = s.dir := rfl
@[simp] theorem State.driveHeartbeat_duty (b : Bool) : (s.driveHeartbeat b).duty = s.duty := rfl
@[simp] theorem State.driveHeartbeat_period (b : Bool) : (s.driveHeartbeat b).period = s.period := rfl
@[simp] theorem State.driveHeartbeat_tmr (b : Bool) : (s.driveHeartbeat b).tmr = s.tmr := rfl
@[simp] theorem State.driveHeartbeat_level (b : Bool) : (s.driveHeartbeat b).level = s.level := rfl
@[simp] theorem State.driveHeartbeat_dev (b : Bool) : (s.driveHeartbeat b).dev = s.dev := rfl
@[simp] theorem State.driveHeartbeat_trace (b : Bool) : (s.driveHeartbeat b).trace = s.trace ++ [.line .heartbeat b] := rfl
@[simp] theorem State.driveHeartbeat_acc (b : Bool) : (s.driveHeartbeat b).acc = s.acc := rfl
@[simp] theorem State.driveHeartbeat_pending (b : Bool) : (s.driveHeartbeat b).pending = s.pending := rfl
@[simp] theorem State.driveHeartbeat_devDraw (b : Bool) : (s.driveHeartbeat b).devDraw = s.devDraw := rfl
@[simp] theorem State.driveHeartbeat_devRd (b : Bool) : (s.driveHeartbeat b).devRd = s.devRd := rfl
@[simp] theorem State.driveHeartbeat_draws (b : Bool) : (s.driveHeartbeat b).draws = s.draws := rfl
@[simp] theorem State.driveHeartbeat_sched (b : Bool) : (s.driveHeartbeat b).sched = s.sched := rfl

/-! #### pwmWrite -/

@[simp] theorem State.pwmWrite_cfg (k : Fin 5) (l : Nat) : (s.pwmWrite k l).cfg = s.cfg := rfl
@[simp] theorem State.pwmWrite_st (k : Fin 5) (l : Nat) : (s.pwmWrite k l).st = s.st := rfl
@[simp] theorem State.pwmWrite_idx (k : Fin 5) (l : Nat) : (s.pwmWrite k l).idx = s.idx := rfl
@[simp] theorem State.pwmWrite_row (k : Fin 5) (l : Nat) : (s.pwmWrite k l).row = s.row := rfl
@[simp] theorem State.pwmWrite_ph (k : Fin 5) (l : Nat) : (s.pwmWrite k l).ph = s.ph := rfl
@[simp] theorem State.pwmWrite_portLo (k : Fin 5) (l : Nat) : (s.pwmWrite k l).portLo = s.portLo := rfl
@[simp] theorem State.pwmWrite_portHi (k : Fin 5) (l : Nat) : (s.pwmWrite k l).portHi = s.portHi := rfl
@[simp] theorem State.pwmWrite_hb (k : Fin 5) (l : Nat) : (s.pwmWrite k l).hb = s.hb := rfl
@[simp] theorem State.pwmWrite_sleepMs (k : Fin 5) (l : Nat) : (s.pwmWrite k l).sleepMs = s.sleepMs := rfl
@[simp] theorem State.pwmWrite_rstN (k : Fin 5) (l : Nat) : (s.pwmWrite k l).rstN = s.rstN := rfl
@[simp] theorem State.pwmWrite_fault (k : Fin 5) (l : Nat) : (s.pwmWrite k l).fault = s.fault := rfl
@[simp] theorem State.pwmWrite_dir (k : Fin 5) (l : Nat) : (s.pwmWrite k l).dir = s.dir := rfl
@[simp] theorem State.pwmWrite_duty (k : Fin 5) (l : Nat) : (s.pwmWrite k l).duty = s.duty := rfl
@[simp] theorem State.pwmWrite_period (k : Fin 5) (l : Nat) : (s.pwmWrite k l).period = s.period := rfl
@[simp] theorem State.pwmWrite_tmr (k : Fin 5) (l : Nat) : (s.pwmWrite k l).tmr = s.tmr := rfl
@[simp] theorem State.pwmWrite_level (k : Fin 5) (l : Nat) : (s.pwmWrite k l).level = s.level.set k l := rfl
@[simp] theorem State.pwmWrite_dev (k : Fin 5) (l : Nat) : (s.pwmWrite k l).dev = s.dev := rfl
@[simp] theorem State.pwmWrite_trace (k : Fin 5) (l : Nat) : (s.pwmWrite k l).trace = s.trace ++ [.pwm k l] := rfl
@[simp] theorem State.pwmWrite_acc (k : Fin 5) (l : Nat) : (s.pwmWrite k l).acc = s.acc := rfl
@[simp] theorem State.pwmWrite_pending (k : Fin 5) (l : Nat) : (s.pwmWrite k l).pending = s.pending := rfl
@[simp] theorem State.pwmWrite_devDraw (k : Fin 5) (l : Nat) : (s.pwmWrite k l).devDraw = s.devDraw := rfl
@[simp] theorem State.pwmWrite_devRd (k : Fin 5) (l : Nat) : (s.pwmWrite k l).devRd = s.devRd := rfl
@[simp] theorem State.pwmWrite_draws (k : Fin 5) (l : Nat) : (s.pwmWrite k l).draws = s.draws := rfl
@[simp] theorem State.pwmWrite_sched (k : Fin 5) (l : Nat) : (s.pwmWrite k l).sched = s.sched := rfl

/-! #### latchRow -/

@[simp] theorem State.latchRow_cfg (r : Row) : (s.latchRow r).cfg = s.cfg := rfl
@[simp] theorem State.latchRow_st (r : Row) : (s.latchRow r).st = s.st := rfl
@[simp] theorem State.latchRow_idx (r : Row) : (s.latchRow r).idx = s.idx := rfl
@[simp] theorem State.latchRow_row (r : Row) : (s.latchRow r).row = r := rfl
@[simp] theorem State.latchRow_ph (r : Row) : (s.latchRow r).ph = 0 := rfl
@[simp] theorem State.latchRow_portLo (r : Row) : (s.latchRow r).portLo = s.portLo := rfl
@[simp] theorem State.latchRow_portHi (r : Row) : (s.latchRow r).portHi = s.portHi := rfl
@[simp] theorem State.latchRow_hb (r : Row) : (s.latchRow r).hb = s.hb := rfl
@[simp] theorem State.latchRow_sleepMs (r : Row) : (s.latchRow r).sleepMs = s.sleepMs := rfl
@[simp] theorem State.latchRow_rstN (r : Row) : (s.latchRow r).rstN = s.rstN := rfl
@[simp] theorem State.latchRow_fault (r : Row) : (s.latchRow r).fault = s.fault := rfl
@[simp] theorem State.latchRow_dir (r : Row) : (s.latchRow r).dir = s.dir := rfl
@[simp] theorem State.latchRow_duty (r : Row) : (s.latchRow r).duty = s.duty := rfl
@[simp] theorem State.latchRow_period (r : Row) : (s.latchRow r).period = s.period := rfl
@[simp] theorem State.latchRow_tmr (r : Row) : (s.latchRow r).tmr = s.tmr := rfl
@[simp] theorem State.latchRow_level (r : Row) : (s.latchRow r).level = s.level := rfl
@[simp] theorem State.latchRow_dev (r : Row) : (s.latchRow r).dev = s.dev := rfl
@[simp] theorem State.latchRow_trace (r : Row) : (s.latchRow r).trace = s.trace := rfl
@[simp] theorem State.latchRow_acc (r : Row) : (s.latchRow r).acc = s.acc := rfl
@[simp] theorem State.latchRow_pending (r : Row) : (s.latchRow r).pending = s.pending := rfl
@[simp] theorem State.latchRow_devDraw (r : Row) : (s.latchRow r).devDraw = s.devDraw := rfl
@[simp] theorem State.latchRow_devRd (r : Row) : (s.latchRow r).devRd = s.devRd := rfl
@[simp] theorem State.latchRow_draws (r : Row) : (s.latchRow r).draws = s.draws := rfl
@[simp] theorem State.latchRow_sched (r : Row) : (s.latchRow r).sched = s.sched := rfl

/-! #### setPorts -/

@[simp] theorem State.setPorts_cfg (lo hi : Byte) : (s.setPorts lo hi).cfg = s.cfg := rfl
@[simp] theorem State.setPorts_st (lo hi : Byte) : (s.setPorts lo hi).st = s.st := rfl
@[simp] theorem State.setPorts_idx (lo hi : Byte) : (s.setPorts lo hi).idx = s.idx := rfl
@[simp] theorem State.setPorts_row (lo hi : Byte) : (s.setPorts lo hi).row = s.row := rfl
@[simp] theorem State.setPorts_ph (lo hi : Byte) : (s.setPorts lo hi).ph = s.ph := rfl
@[simp] theorem State.setPorts_portLo (lo hi : Byte) : (s.setPorts lo hi).portLo = lo := rfl
@[simp] theorem State.setPorts_portHi (lo hi : Byte) : (s.setPorts lo hi).portHi = hi := rfl
@[simp] theorem State.setPorts_hb (lo hi : Byte) : (s.setPorts lo hi).hb = s.hb := rfl
@[simp] theorem State.setPorts_sleepMs (lo hi : Byte) : (s.setPorts lo hi).sleepMs = s.sleepMs := rfl
@[simp] theorem State.setPorts_rstN (lo hi : Byte) : (s.setPorts lo hi).rstN = s.rstN := rfl
@[simp] theorem State.setPorts_fault (lo hi : Byte) : (s.setPorts lo hi).fault = s.fault := rfl
@[simp] theorem State.setPorts_dir (lo hi : Byte) : (s.setPorts lo hi).dir = s.dir := rfl
@[simp] theorem State.setPorts_duty (lo hi : Byte) : (s.setPorts lo hi).duty = s.duty := rfl
@[simp] theorem State.setPorts_period (lo hi : Byte) : (s.setPorts lo hi).period = s.period := rfl
@[simp] theorem State.setPorts_tmr (lo hi : Byte) : (s.setPorts lo hi).tmr = s.tmr := rfl
@[simp] theorem State.setPorts_level (lo hi : Byte) : (s.setPorts lo hi).level = s.level := rfl
@[simp] theorem State.setPorts_dev (lo hi : Byte) : (s.setPorts lo hi).dev = s.dev := rfl
@[simp] theorem State.setPorts_trace (lo hi : Byte) : (s.setPorts lo hi).trace = s.trace := rfl
@[simp] theorem State.setPorts_acc (lo hi : Byte) : (s.setPorts lo hi).acc = s.acc := rfl
@[simp] theorem State.setPorts_pending (lo hi : Byte) : (s.setPorts lo hi).pending = s.pending := rfl
@[simp] theorem State.setPorts_devDraw (lo hi : Byte) : (s.setPorts lo hi).devDraw = s.devDraw := rfl
@[simp] theorem State.setPorts_devRd (lo hi : Byte) : (s.setPorts lo hi).devRd = s.devRd := rfl
@[simp] theorem State.setPorts_draws (lo hi : Byte) : (s.setPorts lo hi).draws = s.draws := rfl
@[simp] theorem State.setPorts_sched (lo hi : Byte) : (s.setPorts lo hi).sched = s.sched := rfl

/-! #### setSleepMs -/

@[simp] theorem State.setSleepMs_cfg (p : Nat) : (s.setSleepMs p).cfg = s.cfg := rfl
@[simp] theorem State.setSleepMs_st (p : Nat) : (s.setSleepMs p).st = s.st := rfl
@[simp] theorem State.setSleepMs_idx (p : Nat) : (s.setSleepMs p).idx = s.idx := rfl
@[simp] theorem State.setSleepMs_row (p : Nat) : (s.setSleepMs p).row = s.row := rfl
@[simp] theorem State.setSleepMs_ph (p : Nat) : (s.setSleepMs p).ph = s.ph := rfl
@[simp] theorem State.setSleepMs_portLo (p : Nat) : (s.setSleepMs p).portLo = s.portLo := rfl
@[simp] theorem State.setSleepMs_portHi (p : Nat) : (s.setSleepMs p).portHi = s.portHi := rfl
@[simp] theorem State.setSleepMs_hb (p : Nat) : (s.setSleepMs p).hb = s.hb := rfl
@[simp] theorem State.setSleepMs_sleepMs (p : Nat) : (s.setSleepMs p).sleepMs = p := rfl
@[simp] theorem State.setSleepMs_rstN (p : Nat) : (s.setSleepMs p).rstN = s.rstN := rfl
@[simp] theorem State.setSleepMs_fault (p : Nat) : (s.setSleepMs p).fault = s.fault := rfl
@[simp] theorem State.setSleepMs_dir (p : Nat) : (s.setSleepMs p).dir = s.dir := rfl
@[simp] theorem State.setSleepMs_duty (p : Nat) : (s.setSleepMs p).duty = s.duty := rfl
@[simp] theorem State.setSleepMs_period (p : Nat) : (s.setSleepMs p).period = s.period := rfl
@[simp] theorem State.setSleepMs_tmr (p : Nat) : (s.setSleepMs p).tmr = s.tmr := rfl
@[simp] theorem State.setSleepMs_level (p : Nat) : (s.setSleepMs p).level = s.level := rfl
@[simp] theorem State.setSleepMs_dev (p : Nat) : (s.setSleepMs p).dev = s.dev := rfl
@[simp] theorem State.setSleepMs_trace (p : Nat) : (s.setSleepMs p).trace = s.trace := rfl
@[simp] theorem State.setSleepMs_acc (p : Nat) : (s.setSleepMs p).acc = s.acc := rfl
@[simp] theorem State.setSleepMs_pending (p : Nat) : (s.setSleepMs p).pending = s.pending := rfl
@[simp] theorem State.setSleepMs_devDraw (p : Nat) : (s.setSleepMs p).devDraw = s.devDraw := rfl
@[simp] theorem State.setSleepMs_devRd (p : Nat) : (s.setSleepMs p).devRd = s.devRd := rfl
@[simp] theorem State.setSleepMs_draws (p : Nat) : (s.setSleepMs p).draws = s.draws := rfl
@[simp] theorem State.setSleepMs_sched (p : Nat) : (s.setSleepMs p).sched = s.sched := rfl

/-! #### setFault -/

@[simp] theorem State.setFault_cfg (f : Fault) : (s.setFault f).cfg = s.cfg := rfl
@[simp] theorem State.setFault_st (f : Fault) : (s.setFault f).st = s.st := rfl
@[simp] theorem State.setFault_idx (f : Fault) : (s.setFault f).idx = s.idx := rfl
@[simp] theorem State.setFault_row (f : Fault) : (s.setFault f).row = s.row := rfl
@[simp] theorem State.setFault_ph (f : Fault) : (s.setFault f).ph = s.ph := rfl
@[simp] theorem State.setFault_portLo (f : Fault) : (s.setFault f).portLo = s.portLo := rfl
@[simp] theorem State.setFault_portHi (f : Fault) : (s.setFault f).portHi = s.portHi := rfl
@[simp] theorem State.setFault_hb (f : Fault) : (s.setFault f).hb = s.hb := rfl
@[simp] theorem State.setFault_sleepMs (f : Fault) : (s.setFault f).sleepMs = s.sleepMs := rfl
@[simp] theorem State.setFault_rstN (f : Fault) : (s.setFault f).rstN = s.rstN := rfl
@[simp] theorem State.setFault_fault (f : Fault) : (s.setFault f).fault = some f := rfl
@[simp] theorem State.setFault_dir (f : Fault) : (s.setFault f).dir = s.dir := rfl
@[simp] theorem State.setFault_duty (f : Fault) : (s.setFault f).duty = s.duty := rfl
@[simp] theorem State.setFault_period (f : Fault) : (s.setFault f).period = s.period := rfl
@[simp] theorem State.setFault_tmr (f : Fault) : (s.setFault f).tmr = s.tmr := rfl
@[simp] theorem State.setFault_level (f : Fault) : (s.setFault f).level = s.level := rfl
@[simp] theorem State.setFault_dev (f : Fault) : (s.setFault f).dev = s.dev := rfl
@[simp] theorem State.setFault_trace (f : Fault) : (s.setFault f).trace = s.trace := rfl
@[simp] theorem State.setFault_acc (f : Fault) : (s.setFault f).acc = s.acc := rfl
@[simp] theorem State.setFault_pending (f : Fault) : (s.setFault f).pending = s.pending := rfl
@[simp] theorem State.setFault_devDraw (f : Fault) : (s.setFault f).devDraw = s.devDraw := rfl
@[simp] theorem State.setFault_devRd (f : Fault) : (s.setFault f).devRd = s.devRd := rfl
@[simp] theorem State.setFault_draws (f : Fault) : (s.setFault f).draws = s.draws := rfl
@[simp] theorem State.setFault_sched (f : Fault) : (s.setFault f).sched = s.sched := rfl

/-! #### moveIdx -/

@[simp] theorem State.moveIdx_cfg (d : Dir) : (s.moveIdx d).cfg = s.cfg := rfl
@[simp] theorem State.moveIdx_st (d : Dir) : (s.moveIdx d).st = s.st := rfl
@[simp] theorem State.moveIdx_idx (d : Dir) : (s.moveIdx d).idx = nextIndex d s.idx := rfl
@[simp] theorem State.moveIdx_row (d : Dir) : (s.moveIdx d).row = s.row := rfl
@[simp] theorem State.moveIdx_ph (d : Dir) : (s.moveIdx d).ph = s.ph := rfl
@[simp] theorem State.moveIdx_portLo (d : Dir) : (s.moveIdx d).portLo = s.portLo := rfl
@[simp] theorem State.moveIdx_portHi (d : Dir) : (s.moveIdx d).portHi = s.portHi := rfl
@[simp] theorem State.moveIdx_hb (d : Dir) : (s.moveIdx d).hb = s.hb := rfl
@[simp] theorem State.moveIdx_sleepMs (d : Dir) : (s.moveIdx d).sleepMs = s.sleepMs := rfl
@[simp] theorem State.moveIdx_rstN (d : Dir) : (s.moveIdx d).rstN = s.rstN := rfl
@[simp] theorem State.moveIdx_fault (d : Dir) : (s.moveIdx d).fault = s.fault := rfl
@[simp] theorem State.moveIdx_dir (d : Dir) : (s.moveIdx d).dir = s.dir := rfl
@[simp] theorem State.moveIdx_duty (d : Dir) : (s.moveIdx d).duty = s.duty := rfl
@[simp] theorem State.moveIdx_period (d : Dir) : (s.moveIdx d).period = s.period := rfl
@[simp] theorem State.moveIdx_tmr (d : Dir) : (s.moveIdx d).tmr = s.tmr := rfl
@[simp] theorem State.moveIdx_level (d : Dir) : (s.moveIdx d).level = s.level := rfl
@[simp] theorem State.moveIdx_dev (d : Dir) : (s.moveIdx d).dev = s.dev := rfl
@[simp] theorem State.moveIdx_trace (d : Dir) : (s.moveIdx d).trace = s.trace := rfl
@[simp] theorem State.moveIdx_acc (d : Dir) : (s.moveIdx d).acc = s.acc := rfl
@[simp] theorem State.moveIdx_pending (d : Dir) : (s.moveIdx d).pending = s.pending := rfl
@[simp] theorem State.moveIdx_devDraw (d : Dir) : (s.moveIdx d).devDraw = s.devDraw := rfl
@[simp] theorem State.moveIdx_devRd (d : Dir) : (s.moveIdx d).devRd = s.devRd := rfl
@[simp] theorem State.moveIdx_draws (d : Dir) : (s.moveIdx d).draws = s.draws := rfl
@[simp] theorem State.moveIdx_sched (d : Dir) : (s.moveIdx d).sched = s.sched := rfl

/-! #### busWrite -/

@[simp] theorem State.busWrite_cfg (reg data : Byte) : (s.busWrite reg data).cfg = s.cfg := rfl
@[simp] theorem State.busWrite_st (reg data : Byte) : (s.busWrite reg data).st = s.st := rfl
@[simp] theorem State.busWrite_idx (reg data : Byte) : (s.busWrite reg data).idx = s.idx := rfl
@[simp] theorem State.busWrite_row (reg data : Byte) : (s.busWrite reg data).row = s.row := rfl
@[simp] theorem State.busWrite_ph (reg data : Byte) : (s.busWrite reg data).ph = s.ph := rfl
@[simp] theorem State.busWrite_portLo (reg data : Byte) : (s.busWrite reg data).portLo = s.portLo := rfl
@[simp] theorem State.busWrite_portHi (reg data : Byte) : (s.busWrite reg data).portHi = s.portHi := rfl
@[simp] theorem State.busWrite_hb (reg data : Byte) : (s.busWrite reg data).hb = s.hb := rfl
@[simp] theorem State.busWrite_sleepMs (reg data : Byte) : (s.busWrite reg data).sleepMs = s.sleepMs := rfl
@[simp] theorem State.busWrite_rstN (reg data : Byte) : (s.busWrite reg data).rstN = s.rstN := rfl
@[simp] theorem State.busWrite_fault (reg data : Byte) : (s.busWrite reg data).fault = s.fault := rfl
@[simp] theorem State.busWrite_dir (reg data : Byte) : (s.busWrite reg data).dir = s.dir := rfl
@[simp] theorem State.busWrite_duty (reg data : Byte) : (s.busWrite reg data).duty = s.duty := rfl
@[simp] theorem State.busWrite_period (reg data : Byte) : (s.busWrite reg data).period = s.period := rfl
@[simp] theorem State.busWrite_tmr (reg data : Byte) : (s.busWrite reg data).tmr = s.tmr := rfl
@[simp] theorem State.busWrite_level (reg data : Byte) : (s.busWrite reg data).level = s.level := rfl
@[simp] theorem State.busWrite_dev (reg data : Byte) : (s.busWrite reg data).dev = s.dev.write reg.toNat data := rfl
@[simp] theorem State.busWrite_trace (reg data : Byte) : (s.busWrite reg data).trace = s.trace ++
      [.frame s.cfg.bus.opWr reg data (writeReply s).r0 (writeReply s).r1 (writeReply s).r2] := rfl
@[simp] theorem State.busWrite_acc (reg data : Byte) : (s.busWrite reg data).acc = s.acc := rfl
@[simp] theorem State.busWrite_pending (reg data : Byte) : (s.busWrite reg data).pending = s.pending := rfl
@[simp] theorem State.busWrite_devDraw (reg data : Byte) : (s.busWrite reg data).devDraw = s.devDraw := rfl
@[simp] theorem State.busWrite_devRd (reg data : Byte) : (s.busWrite reg data).devRd = s.devRd := rfl
@[simp] theorem State.busWrite_draws (reg data : Byte) : (s.busWrite reg data).draws = s.draws + 1 := rfl
@[simp] theorem State.busWrite_sched (reg data : Byte) : (s.busWrite reg data).sched = s.sched := rfl

/-! #### busRead -/

@[simp] theorem State.busRead_cfg (reg : Byte) : (s.busRead reg).cfg = s.cfg := rfl
@[simp] theorem State.busRead_st (reg : Byte) : (s.busRead reg).st = s.st := rfl
@[simp] theorem State.busRead_idx (reg : Byte) : (s.busRead reg).idx = s.idx := rfl
@[simp] theorem State.busRead_row (reg : Byte) : (s.busRead reg).row = s.row := rfl
@[simp] theorem State.busRead_ph (reg : Byte) : (s.busRead reg).ph = s.ph := rfl
@[simp] theorem State.busRead_portLo (reg : Byte) : (s.busRead reg).portLo = s.portLo := rfl
@[simp] theorem State.busRead_portHi (reg : Byte) : (s.busRead reg).portHi = s.portHi := rfl
@[simp] theorem State.busRead_hb (reg : Byte) : (s.busRead reg).hb = s.hb := rfl
@[simp] theorem State.busRead_sleepMs (reg : Byte) : (s.busRead reg).sleepMs = s.sleepMs := rfl
@[simp] theorem State.busRead_rstN (reg : Byte) : (s.busRead reg).rstN = s.rstN := rfl
@[simp] theorem State.busRead_fault (reg : Byte) : (s.busRead reg).fault = s.fault := rfl
@[simp] theorem State.busRead_dir (reg : Byte) : (s.busRead reg).dir = s.dir := rfl
@[simp] theorem State.busRead_duty (reg : Byte) : (s.busRead reg).duty = s.duty := rfl
@[simp] theorem State.busRead_period (reg : Byte) : (s.busRead reg).period = s.period := rfl
@[simp] theorem State.busRead_tmr (reg : Byte) : (s.busRead reg).tmr = s.tmr := rfl
@[simp] theorem State.busRead_level (reg : Byte) : (s.busRead reg).level = s.level := rfl
@[simp] theorem State.busRead_dev (reg : Byte) : (s.busRead reg).dev = s.dev := rfl
@[simp] theorem State.busRead_trace (reg : Byte) : (s.busRead reg).trace = s.trace ++
      [.frame s.cfg.bus.opRd reg 0x00#8 (readReply s).r0 (readReply s).r1 (readReply s).r2] := rfl
@[simp] theorem State.busRead_acc (reg : Byte) : (s.busRead reg).acc = s.acc := rfl
@[simp] theorem State.busRead_pending (reg : Byte) : (s.busRead reg).pending = s.pending := rfl
@[simp] theorem State.busRead_devDraw (reg : Byte) : (s.busRead reg).devDraw = s.devDraw := rfl
@[simp] theorem State.busRead_devRd (reg : Byte) : (s.busRead reg).devRd = none := rfl
@[simp] theorem State.busRead_draws (reg : Byte) : (s.busRead reg).draws = s.draws + 1 := rfl
@[simp] theorem State.busRead_sched (reg : Byte) : (s.busRead reg).sched = s.sched := rfl

/-! #### verify -/

@[simp] theorem State.verify_cfg (reg wrote read : Byte) : (s.verify reg wrote read).cfg = s.cfg := rfl
@[simp] theorem State.verify_st (reg wrote read : Byte) : (s.verify reg wrote read).st = s.st := rfl
@[simp] theorem State.verify_idx (reg wrote read : Byte) : (s.verify reg wrote read).idx = s.idx := rfl
@[simp] theorem State.verify_row (reg wrote read : Byte) : (s.verify reg wrote read).row = s.row := rfl
@[simp] theorem State.verify_ph (reg wrote read : Byte) : (s.verify reg wrote read).ph = s.ph := rfl
@[simp] theorem State.verify_portLo (reg wrote read : Byte) : (s.verify reg wrote read).portLo = s.portLo := rfl
@[simp] theorem State.verify_portHi (reg wrote read : Byte) : (s.verify reg wrote read).portHi = s.portHi := rfl
@[simp] theorem State.verify_hb (reg wrote read : Byte) : (s.verify reg wrote read).hb = s.hb := rfl
@[simp] theorem State.verify_sleepMs (reg wrote read : Byte) : (s.verify reg wrote read).sleepMs = s.sleepMs := rfl
@[simp] theorem State.verify_rstN (reg wrote read : Byte) : (s.verify reg wrote read).rstN = s.rstN := rfl
@[simp] theorem State.verify_fault (reg wrote read : Byte) : (s.verify reg wrote read).fault = s.fault := rfl
@[simp] theorem State.verify_dir (reg wrote read : Byte) : (s.verify reg wrote read).dir = s.dir := rfl
@[simp] theorem State.verify_duty (reg wrote read : Byte) : (s.verify reg wrote read).duty = s.duty := rfl
@[simp] theorem State.verify_period (reg wrote read : Byte) : (s.verify reg wrote read).period = s.period := rfl
@[simp] theorem State.verify_tmr (reg wrote read : Byte) : (s.verify reg wrote read).tmr = s.tmr := rfl
@[simp] theorem State.verify_level (reg wrote read : Byte) : (s.verify reg wrote read).level = s.level := rfl
@[simp] theorem State.verify_dev (reg wrote read : Byte) : (s.verify reg wrote read).dev = s.dev := rfl
@[simp] theorem State.verify_trace (reg wrote read : Byte) : (s.verify reg wrote read).trace = s.trace ++
      if read = wrote then [] else [.mismatch reg wrote read] := rfl
@[simp] theorem State.verify_acc (reg wrote read : Byte) : (s.verify reg wrote read).acc = s.acc := rfl
@[simp] theorem State.verify_pending (reg wrote read : Byte) : (s.verify reg wrote read).pending = s.pending := rfl
@[simp] theorem State.verify_devDraw (reg wrote read : Byte) : (s.verify reg wrote read).devDraw = s.devDraw := rfl
@[simp] theorem State.verify_devRd (reg wrote read : Byte) : (s.verify reg wrote read).devRd = s.devRd := rfl
@[simp] theorem State.verify_draws (reg wrote read : Byte) : (s.verify reg wrote read).draws = s.draws := rfl
@[simp] theorem State.verify_sched (reg wrote read : Byte) : (s.verify reg wrote read).sched = s.sched := rfl

/-! #### nextPhase -/

@[simp] theorem State.nextPhase_cfg : s.nextPhase.cfg = s.cfg := by
  unfold State.nextPhase; split <;> rfl
@[simp] theorem State.nextPhase_idx : s.nextPhase.idx = s.idx := by
  unfold State.nextPhase; split <;> rfl
@[simp] theorem State.nextPhase_row : s.nextPhase.row = s.row := by
  unfold State.nextPhase; split <;> rfl
@[simp] theorem State.nextPhase_portLo : s.nextPhase.portLo = s.portLo := by
  unfold State.nextPhase; split <;> rfl
@[simp] theorem State.nextPhase_portHi : s.nextPhase.portHi = s.portHi := by
  unfold State.nextPhase; split <;> rfl
@[simp] theorem State.nextPhase_hb : s.nextPhase.hb = s.hb := by
  unfold State.nextPhase; split <;> rfl
@[simp] theorem State.nextPhase_sleepMs : s.nextPhase.sleepMs = s.sleepMs := by
  unfold State.nextPhase; split <;> rfl
@[simp] theorem State.nextPhase_rstN : s.nextPhase.rstN = s.rstN := by
  unfold State.nextPhase; split <;> rfl
@[simp] theorem State.nextPhase_fault : s.nextPhase.fault = s.fault := by
  unfold State.nextPhase; split <;> rfl
@[simp] theorem State.nextPhase_dir : s.nextPhase.dir = s.dir := by
  unfold State.nextPhase; split <;> rfl
@[simp] theorem State.nextPhase_duty : s.nextPhase.duty = s.duty := by
  unfold State.nextPhase; split <;> rfl
@[simp] theorem State.nextPhase_period : s.nextPhase.period = s.period := by
  unfold State.nextPhase; split <;> rfl
@[simp] theorem State.nextPhase_tmr : s.nextPhase.tmr = s.tmr := by
  unfold State.nextPhase; split <;> rfl
@[simp] theorem State.nextPhase_level : s.nextPhase.level = s.level := by
  unfold State.nextPhase; split <;> rfl
@[simp] theorem State.nextPhase_dev : s.nextPhase.dev = s.dev := by
  unfold State.nextPhase; split <;> rfl
@[simp] theorem State.nextPhase_trace : s.nextPhase.trace = s.trace := by
  unfold State.nextPhase; split <;> rfl
@[simp] theorem State.nextPhase_acc : s.nextPhase.acc = s.acc := by
  unfold State.nextPhase; split <;> rfl
@[simp] theorem State.nextPhase_pending : s.nextPhase.pending = s.pending := by
  unfold State.nextPhase; split <;> rfl
@[simp] theorem State.nextPhase_devDraw : s.nextPhase.devDraw = s.devDraw := by
  unfold State.nextPhase; split <;> rfl
@[simp] theorem State.nextPhase_devRd : s.nextPhase.devRd = s.devRd := by
  unfold State.nextPhase; split <;> rfl
@[simp] theorem State.nextPhase_draws : s.nextPhase.draws = s.draws := by
  unfold State.nextPhase; split <;> rfl
@[simp] theorem State.nextPhase_sched : s.nextPhase.sched = s.sched := by
  unfold State.nextPhase; split <;> rfl

theorem State.nextPhase_st : s.nextPhase.st = if s.ph = 4 then .compose else .pwmSet := by
  unfold State.nextPhase; split <;> rfl

theorem State.nextPhase_ph : s.nextPhase.ph = if s.ph = 4 then 4 else s.ph + 1 := by
  unfold State.nextPhase; split
  · assumption
  · rfl

end Sys2Proof.Machine
end

