-- ==== Sys2Proof/Laws/Codes.lean ====
section
/-! SUPPORT. The small lemmas of the encodings: one direction code, one state code, the bytes of a frame. -/

namespace Sys2Proof

@[simp] theorem FsmState.ofCode_code (st : FsmState) : FsmState.ofCode st.code = st := by
  cases st <;> rfl

theorem FsmState.code_ofCode : ∀ c : BitVec 4, (FsmState.ofCode c).code = c := by decide

@[simp] theorem Dir.ofCode_code (d : Dir) : Dir.ofCode d.code = some d := by
  cases d <;> rfl

theorem Dir.ofCode_eq_none : ∀ c : BitVec 2, Dir.ofCode c = none ↔ c = 0b11#2 := by decide

theorem Dir.code_of_ofCode : ∀ (c : BitVec 2) (d : Dir), Dir.ofCode c = some d → d.code = c := by
  intro c d
  cases d <;> revert c <;> decide

@[simp] theorem Tern.ofCode_code (t : Tern) : Tern.ofCode t.code = some t := by
  cases t <;> rfl

theorem Tern.ofCode_eq_none : ∀ c : BitVec 2, Tern.ofCode c = none ↔ c = 0b10#2 := by decide

theorem Tern.code_of_ofCode : ∀ (c : BitVec 2) (t : Tern), Tern.ofCode c = some t → t.code = c := by
  intro c t
  cases t <;> revert c <;> decide

/-- F as a number (30_encoding.md R67). -/
theorem frameWord_toNat (b0 b1 b2 : Byte) :
    (frameWord b0 b1 b2).toNat = b0.toNat * 65536 + b1.toNat * 256 + b2.toNat := by
  have h : (frameWord b0 b1 b2).toNat = ((b0.toNat <<< 8 ||| b1.toNat) <<< 8 ||| b2.toNat) := by
    simp only [frameWord]
    rw [BitVec.toNat_append, BitVec.toNat_append]
  rw [h, ← Nat.shiftLeft_add_eq_or_of_lt b2.isLt, ← Nat.shiftLeft_add_eq_or_of_lt b1.isLt]
  simp only [Nat.shiftLeft_eq]
  omega

theorem frameB0_toNat (f : BitVec 24) : (frameB0 f).toNat = f.toNat / 65536 := by
  have := f.isLt
  simp only [frameB0, BitVec.extractLsb'_toNat, Nat.shiftRight_eq_div_pow]
  omega

theorem frameB1_toNat (f : BitVec 24) : (frameB1 f).toNat = f.toNat / 256 % 256 := by
  simp only [frameB1, BitVec.extractLsb'_toNat, Nat.shiftRight_eq_div_pow]

theorem frameB2_toNat (f : BitVec 24) : (frameB2 f).toNat = f.toNat % 256 := by
  simp only [frameB2, BitVec.extractLsb'_toNat, Nat.shiftRight_eq_div_pow, Nat.pow_zero, Nat.div_one]

@[simp] theorem frameB0_frameWord (b0 b1 b2 : Byte) : frameB0 (frameWord b0 b1 b2) = b0 := by
  apply BitVec.eq_of_toNat_eq
  rw [frameB0_toNat, frameWord_toNat]
  omega

@[simp] theorem frameB1_frameWord (b0 b1 b2 : Byte) : frameB1 (frameWord b0 b1 b2) = b1 := by
  apply BitVec.eq_of_toNat_eq
  rw [frameB1_toNat, frameWord_toNat]
  omega

@[simp] theorem frameB2_frameWord (b0 b1 b2 : Byte) : frameB2 (frameWord b0 b1 b2) = b2 := by
  apply BitVec.eq_of_toNat_eq
  rw [frameB2_toNat, frameWord_toNat]
  omega

/-- Bit i of F (30_encoding.md R67). -/
theorem frameWord_getLsbD (b0 b1 b2 : Byte) (i : Nat) :
    (frameWord b0 b1 b2).getLsbD i =
      if i < 8 then b2.getLsbD i else if i - 8 < 8 then b1.getLsbD (i - 8) else b0.getLsbD (i - 8 - 8) := by
  have h : (frameWord b0 b1 b2).getLsbD i = (b0 ++ b1 ++ b2 : BitVec (8 + 8 + 8)).getLsbD i := rfl
  rw [h, BitVec.getLsbD_append, BitVec.getLsbD_append]

/-- A frame is its three bytes (30_encoding.md R67). -/
theorem frameWord_bytes (f : BitVec 24) : frameWord (frameB0 f) (frameB1 f) (frameB2 f) = f := by
  apply BitVec.eq_of_toNat_eq
  rw [frameWord_toNat, frameB0_toNat, frameB1_toNat, frameB2_toNat]
  omega

end Sys2Proof
end

