-- ==== Sys2Proof/Laws/Config.lean ====
section
/-! SUPPORT. What a well-formed configuration gives, and that the built machine's is one. -/

namespace Sys2Proof.Config

theorem within_bounds {lo hi : Nat} (h : lo ≤ hi) (v : Nat) : lo ≤ within lo hi v ∧ within lo hi v ≤ hi := by
  unfold within; omega

theorem distinctChans_nodup (v : Vector PwmChan 5) : (distinctChans v).toList.Nodup := by
  unfold distinctChans
  split
  · assumption
  · decide

theorem permActions_perm (l : List BtnAction) : (permActions l).Perm allBtnActions := by
  unfold permActions
  split
  · assumption
  · exact .refl _

/-- The constraints of R10, one by one. -/
theorem wf_iff (c : Config) : c.wf = true ↔
    (5 ≤ c.wrapMax ∧ c.wrapMax < 2 ^ c.dutyW) ∧ (c.msMin ≤ c.msMax ∧ c.msMax < 2 ^ c.periodW) ∧
      (c.msMin ≤ c.defaultPeriodMs ∧ c.defaultPeriodMs ≤ c.msMax) ∧ c.pwmCh.toList.Nodup ∧
      c.btnPrio.Perm allBtnActions := by
  simp [wf, and_assoc]

/-- The built machine's configuration keeps R10, whatever its free parameters are. -/
theorem site_wf : site.wf = true := by
  have hm := within_bounds (lo := 0) (hi := 2 ^ defaultPeriodW - 1) (by decide) freeParams.msMin
  have hx := within_bounds (hi := 2 ^ defaultPeriodW - 1) hm.2 freeParams.msMax
  have hw := within_bounds (lo := 5) (hi := 2 ^ defaultDutyW - 1) (by decide) freeParams.wrapMax
  have hd := within_bounds hx.1 freeParams.defaultPeriodMs
  have hp : 2 ^ defaultPeriodW - 1 < 2 ^ defaultPeriodW := by decide
  have hq : 2 ^ defaultDutyW - 1 < 2 ^ defaultDutyW := by decide
  exact (wf_iff site).mpr ⟨⟨hw.1, hw.2.trans_lt hq⟩, ⟨hx.1, hx.2.trans_lt hp⟩, hd, distinctChans_nodup _,
    permActions_perm _⟩

end Sys2Proof.Config
end

