-- ==== Sys2Proof/Laws/Memory.lean ====
section
/-! SUPPORT. The expander's register memory: read after write, that a write keeps the canonical form, and the
byte each register holds. -/

namespace Sys2Proof.Machine.Memory

@[simp] theorem read_nil (a : Nat) : read [] a = none := rfl

theorem read_cons (b : Nat) (w : Byte) (m : Memory) (a : Nat) :
    read ((b, w) :: m) a = if b = a then some w else read m a := rfl

theorem write_cons (b : Nat) (w : Byte) (m : Memory) (a : Nat) (v : Byte) :
    write ((b, w) :: m) a v =
      if a < b then (a, v) :: (b, w) :: m else if a = b then (a, v) :: m else (b, w) :: write m a v := rfl

@[simp] theorem read_write_same (m : Memory) (a : Nat) (v : Byte) : (m.write a v).read a = some v := by
  induction m with
  | nil => simp [write, read]
  | cons c m ih =>
    obtain ⟨b, w⟩ := c
    rw [write_cons]
    split
    · simp [read_cons]
    · split
      · simp [read_cons]
      · next h => rw [read_cons, if_neg (Ne.symm h), ih]

theorem read_write_other (m : Memory) {a a' : Nat} (v : Byte) (h : a' ≠ a) : (m.write a v).read a' = m.read a' := by
  induction m with
  | nil => simp [write, read, h.symm]
  | cons c m ih =>
    obtain ⟨b, w⟩ := c
    rw [write_cons]
    split
    · rw [read_cons, if_neg h.symm]
    · split
      · next hab => subst hab; rw [read_cons, read_cons, if_neg h.symm, if_neg h.symm]
      · rw [read_cons, read_cons, ih]

@[simp] theorem wf_nil : wf [] = true := rfl

theorem wf_cons (b : Nat) (w : Byte) (m : Memory) :
    wf ((b, w) :: m) = true ↔ (∀ c ∈ m, b < c.1) ∧ b < 256 ∧ wf m = true := by
  simp only [wf, List.map_cons, List.pairwise_cons, List.mem_map, Bool.and_eq_true, decide_eq_true_eq,
    List.all_cons]
  constructor
  · rintro ⟨⟨h1, h2⟩, h3, h4⟩
    exact ⟨fun c hc => h1 _ ⟨c, hc, rfl⟩, h3, h2, h4⟩
  · rintro ⟨h1, h3, h2, h4⟩
    exact ⟨⟨by rintro _ ⟨c, hc, rfl⟩; exact h1 c hc, h2⟩, h3, h4⟩

/-- A write lists no address but its own and those listed before. -/
theorem mem_write {m : Memory} {a : Nat} {v : Byte} {c : Host.Cell} (h : c ∈ m.write a v) : c.1 = a ∨ c ∈ m := by
  induction m with
  | nil => simp only [write, List.mem_singleton] at h; exact .inl (by rw [h])
  | cons d m ih =>
    obtain ⟨b, w⟩ := d
    rw [write_cons] at h
    split at h
    · rcases List.mem_cons.mp h with rfl | h
      · exact .inl rfl
      · exact .inr h
    · split at h
      · rcases List.mem_cons.mp h with rfl | h
        · exact .inl rfl
        · exact .inr (List.mem_cons_of_mem _ h)
      · rcases List.mem_cons.mp h with rfl | h
        · exact .inr List.mem_cons_self
        · exact (ih h).imp_right (List.mem_cons_of_mem _)

/-- Every write of a register keeps the canonical form. -/
theorem wf_write {m : Memory} (h : wf m = true) {a : Nat} (ha : a < 256) (v : Byte) : wf (m.write a v) = true := by
  induction m with
  | nil => exact (wf_cons _ _ _).mpr ⟨nofun, ha, rfl⟩
  | cons c m ih =>
    obtain ⟨b, w⟩ := c
    obtain ⟨hb, hb', hm⟩ := (wf_cons _ _ _).mp h
    rw [write_cons]
    split
    · next hab =>
      refine (wf_cons _ _ _).mpr ⟨fun c hc => ?_, ha, h⟩
      rcases List.mem_cons.mp hc with rfl | hc
      · exact hab
      · exact Nat.lt_trans hab (hb c hc)
    · split
      · next hab => subst hab; exact (wf_cons _ _ _).mpr ⟨hb, hb', hm⟩
      · next h1 h2 =>
        refine (wf_cons _ _ _).mpr ⟨fun c hc => ?_, hb', ih hm⟩
        rcases mem_write hc with hc | hc
        · omega
        · exact hb c hc

end Sys2Proof.Machine.Memory

namespace Sys2Proof.Machine

theorem devByte_of_read {s : State} {a : Nat} {v : Byte} (h : s.dev.read a = some v) : devByte s a = v := by
  simp [devByte, h]

/-- States with the same written registers and the same reset of the expander hold the same bytes. -/
theorem devByte_congr {s t : State} (hd : t.dev = s.dev) (hn : t.devDraw = s.devDraw) (a : Nat) :
    devByte t a = devByte s a := by
  simp [devByte, hd, hn]

@[simp] theorem devByte_busWrite_same (s : State) (reg data : Byte) :
    devByte (s.busWrite reg data) reg.toNat = data := by
  simp [devByte]

theorem devByte_busWrite_other (s : State) (reg data : Byte) {a : Nat} (h : a ≠ reg.toNat) :
    devByte (s.busWrite reg data) a = devByte s a := by
  simp [devByte, Memory.read_write_other _ _ h]

/-- A low reset line leaves a free byte in every register. -/
@[simp] theorem devByte_driveRstN_false (s : State) (a : Nat) :
    devByte (s.driveRstN false) a = Config.freeRegister s.draws a := by
  simp [devByte]

@[simp] theorem devByte_driveRstN_true (s : State) (a : Nat) : devByte (s.driveRstN true) a = devByte s a :=
  devByte_congr rfl rfl a

end Sys2Proof.Machine
end

