-- ==== Sys2Proof/Laws/Exec.lean ====
section
/-! SUPPORT. What each shared operation and each meaning answers, said once: the rest of the proofs cite these and unfold none. -/

namespace Sys2Proof.Machine

variable {s t u : State}

/-! ### Shared operations -/

theorem whenExpired_expired (h : s.tmr = .expired) (k : State → Host.Outcome State Fault Refusal) :
    whenExpired s k = k s.disarm := by
  unfold whenExpired; rw [h]

theorem whenExpired_hold (h : s.tmr ≠ .expired) (k : State → Host.Outcome State Fault Refusal) :
    whenExpired s k = .next s := by
  unfold whenExpired
  cases hs : s.tmr with
  | idle => rfl
  | armed ms => rfl
  | expired => exact absurd hs h

/-- A waiting rule answers next in two cases: it holds, or the timer had expired. -/
theorem whenExpired_cases {k : State → Host.Outcome State Fault Refusal} (h : whenExpired s k = .next t) :
    (s.tmr ≠ .expired ∧ t = s) ∨ (s.tmr = .expired ∧ k s.disarm = .next t) := by
  by_cases he : s.tmr = .expired
  · rw [whenExpired_expired he] at h; exact .inr ⟨he, h⟩
  · rw [whenExpired_hold he] at h; injection h with h; exact .inl ⟨he, h.symm⟩

@[simp] theorem raise_eq (f : Fault) : raise f s = .next (s.setFault f) := rfl

theorem romRead_eq (tab : PhaseTable) {i : Nat} (h : i < 20) : romRead tab i = some tab[i] := by
  simp [romRead, h]

theorem romRead_eq_none (tab : PhaseTable) {i : Nat} (h : 20 ≤ i) : romRead tab i = none := by
  simp [romRead, h]

/-- A row is read exactly at an index in range (40_phase_table.md R83). -/
theorem romRead_isSome {tab : PhaseTable} {i : Nat} {r : Row} (h : romRead tab i = some r) : i < 20 := by
  by_contra hi
  rw [romRead_eq_none tab (by omega)] at h
  cases h

theorem nextIndex_forward (i : BitVec 5) : (nextIndex .forward i).toNat = (i.toNat + 1) % 20 := by
  revert i; decide

theorem nextIndex_reverse (i : BitVec 5) : (nextIndex .reverse i).toNat = (i.toNat + 19) % 20 := by
  revert i; decide

@[simp] theorem nextIndex_stopped (i : BitVec 5) : nextIndex .stopped i = i := rfl

/-- The counter stays in range from any index in range (10_state.md R26). -/
theorem nextIndex_lt (d : Dir) {i : BitVec 5} (h : i.toNat < 20) : (nextIndex d i).toNat < 20 := by
  cases d with
  | forward => rw [nextIndex_forward]; omega
  | reverse => rw [nextIndex_reverse]; omega
  | stopped => exact h

/-! ### Start-up (44_startup.md) -/

theorem exec_initRstHigh :
    exec .initRstHigh s = .next (((s.driveRstN true).arm s.cfg.tRstPreMs).goto .initRstLow) := rfl

theorem exec_initRstLow (h : s.tmr = .expired) :
    exec .initRstLow s = .next (((s.disarm.driveRstN false).arm s.cfg.tRstLowMs).goto .initRstRelease) := by
  change execInitRstLow s = _
  unfold execInitRstLow
  rw [whenExpired_expired h]
  rfl

theorem exec_initRstRelease (h : s.tmr = .expired) :
    exec .initRstRelease s = .next (((s.disarm.driveRstN true).arm s.cfg.tRstPostMs).goto .initIodirLo) := by
  change execInitRstRelease s = _
  unfold execInitRstRelease
  rw [whenExpired_expired h]
  rfl

theorem exec_initIodirLo (h : s.tmr = .expired) :
    exec .initIodirLo s =
      .next ((s.disarm.busWrite s.cfg.bus.regDirLo s.cfg.bus.dirAllOut).goto .initIodirHi) := by
  change execInitIodirLo s = _
  unfold execInitIodirLo
  rw [whenExpired_expired h]
  rfl

theorem exec_initIodirHi :
    exec .initIodirHi s = .next ((s.busWrite s.cfg.bus.regDirHi s.cfg.bus.dirAllOut).goto .lookup) := rfl

/-! ### The drive (40_phase_table.md, 41_pwm_mapper.md, 42_port_codec.md) -/

theorem exec_lookup (h : s.idx.toNat < 20) :
    exec .lookup s = .next ((s.latchRow s.cfg.phaseTable[s.idx.toNat]).goto .pwmSet) := by
  change execLookup s = _
  unfold execLookup
  rw [romRead_eq _ h]

theorem exec_lookup_fault (h : 20 ≤ s.idx.toNat) :
    exec .lookup s = .next (s.setFault (.idxRange s.idx)) := by
  change execLookup s = _
  unfold execLookup
  rw [romRead_eq_none _ h, raise_eq]

theorem exec_pwmSet (h : s.ph.toNat < 5) :
    exec .pwmSet s = .next (s.pwmWrite ⟨s.ph.toNat, h⟩ (levelFor s.row[s.ph.toNat] s.duty)).nextPhase :=
  dif_pos h

theorem exec_pwmSet_fault (h : ¬ s.ph.toNat < 5) :
    exec .pwmSet s = .next (s.setFault (.phRange s.ph)) :=
  dif_neg h

theorem exec_compose : exec .compose s = .next ((s.setPorts (portLoOf s.row) (portHiOf s.row)).goto .wrLo) := rfl

theorem exec_wrLo : exec .wrLo s = .next ((s.busWrite s.cfg.bus.regPortLo s.portLo).goto .wrHi) := rfl

theorem exec_wrHi : exec .wrHi s = .next ((s.busWrite s.cfg.bus.regPortHi s.portHi).goto .rdLo) := rfl

theorem exec_rdLo :
    exec .rdLo s =
      .next (((s.busRead s.cfg.bus.regPortLo).verify s.cfg.bus.regPortLo s.portLo (readReply s).r2).goto .rdHi) := rfl

theorem exec_rdHi :
    exec .rdHi s =
      .next (((s.busRead s.cfg.bus.regPortHi).verify s.cfg.bus.regPortHi s.portHi (readReply s).r2).goto .advance) :=
  rfl

/-! ### Index, heartbeat, pacing (43_sequencer.md) -/

theorem exec_advance {d : Dir} (h : s.dir = d.code) : exec .advance s = .next ((s.moveIdx d).goto .heartbeat) := by
  change execAdvance s = _
  unfold execAdvance inDir
  rw [h, Dir.ofCode_code]

theorem exec_advance_fault (h : s.dir = 0b11#2) :
    exec .advance s = .next (s.setFault (.dirCode 0b11#2)) := by
  change execAdvance s = _
  unfold execAdvance inDir
  rw [(Dir.ofCode_eq_none _).mpr h, raise_eq, h]

/-- ADVANCE either moves the index by a legal direction or raises `DIR_CODE`. -/
theorem exec_advance_cases (s : State) :
    (∃ d : Dir, s.dir = d.code ∧ exec .advance s = .next ((s.moveIdx d).goto .heartbeat)) ∨
      (s.dir = 0b11#2 ∧ exec .advance s = .next (s.setFault (.dirCode 0b11#2))) := by
  cases h : Dir.ofCode s.dir with
  | none =>
    have h' := (Dir.ofCode_eq_none _).mp h
    exact .inr ⟨h', exec_advance_fault h'⟩
  | some d =>
    have h' := (Dir.code_of_ofCode _ _ h).symm
    exact .inl ⟨d, h', exec_advance h'⟩

theorem exec_heartbeat : exec .heartbeat s = .next ((s.driveHeartbeat (!s.hb)).goto .sleepArm) := rfl

theorem exec_sleepArm : exec .sleepArm s = .next (((s.setSleepMs s.period).arm s.period).goto .sleepWait) := rfl

theorem exec_sleepWait (h : s.tmr = .expired) : exec .sleepWait s = .next (s.disarm.goto .lookup) := by
  change execSleepWait s = _
  unfold execSleepWait
  rw [whenExpired_expired h]

/-- Where the timer has not expired a waiting micro-operation holds (43_sequencer.md R121). -/
theorem exec_hold {st : FsmState} (hw : waitsForTimer st = true) (h : s.tmr ≠ .expired) :
    exec st.instr s = .next s := by
  cases st with
  | initRstLow => change execInitRstLow s = _; unfold execInitRstLow; rw [whenExpired_hold h]
  | initRstRelease => change execInitRstRelease s = _; unfold execInitRstRelease; rw [whenExpired_hold h]
  | initIodirLo => change execInitIodirLo s = _; unfold execInitIodirLo; rw [whenExpired_hold h]
  | sleepWait => change execSleepWait s = _; unfold execSleepWait; rw [whenExpired_hold h]
  | _ => cases hw

theorem exec_initRstLow_hold (h : s.tmr ≠ .expired) : exec .initRstLow s = .next s := exec_hold (st := .initRstLow) rfl h

theorem exec_initRstRelease_hold (h : s.tmr ≠ .expired) : exec .initRstRelease s = .next s :=
  exec_hold (st := .initRstRelease) rfl h

theorem exec_initIodirLo_hold (h : s.tmr ≠ .expired) : exec .initIodirLo s = .next s :=
  exec_hold (st := .initIodirLo) rfl h

theorem exec_sleepWait_hold (h : s.tmr ≠ .expired) : exec .sleepWait s = .next s := exec_hold (st := .sleepWait) rfl h

/-! ### All of a `SEQ` step -/

/-- What the micro-operation of `ST` can do to a state: it holds, raises its fault, or has its rule's effect. -/
inductive SeqEffect (s : State) : State → Prop where
  | hold (hw : waitsForTimer s.st = true) (ht : s.tmr ≠ .expired) : SeqEffect s s
  | idxRange (hst : s.st = .lookup) (hi : 20 ≤ s.idx.toNat) : SeqEffect s (s.setFault (.idxRange s.idx))
  | phRange (hst : s.st = .pwmSet) (hp : 5 ≤ s.ph.toNat) : SeqEffect s (s.setFault (.phRange s.ph))
  | dirCode (hst : s.st = .advance) (hd : s.dir = 0b11#2) : SeqEffect s (s.setFault (.dirCode 0b11#2))
  | initRstHigh (hst : s.st = .initRstHigh) :
    SeqEffect s (((s.driveRstN true).arm s.cfg.tRstPreMs).goto .initRstLow)
  | initRstLow (hst : s.st = .initRstLow) (ht : s.tmr = .expired) :
    SeqEffect s (((s.disarm.driveRstN false).arm s.cfg.tRstLowMs).goto .initRstRelease)
  | initRstRelease (hst : s.st = .initRstRelease) (ht : s.tmr = .expired) :
    SeqEffect s (((s.disarm.driveRstN true).arm s.cfg.tRstPostMs).goto .initIodirLo)
  | initIodirLo (hst : s.st = .initIodirLo) (ht : s.tmr = .expired) :
    SeqEffect s ((s.disarm.busWrite s.cfg.bus.regDirLo s.cfg.bus.dirAllOut).goto .initIodirHi)
  | initIodirHi (hst : s.st = .initIodirHi) :
    SeqEffect s ((s.busWrite s.cfg.bus.regDirHi s.cfg.bus.dirAllOut).goto .lookup)
  | lookup (hst : s.st = .lookup) (hi : s.idx.toNat < 20) :
    SeqEffect s ((s.latchRow s.cfg.phaseTable[s.idx.toNat]).goto .pwmSet)
  | pwmSet (hst : s.st = .pwmSet) (hp : s.ph.toNat < 5) :
    SeqEffect s (s.pwmWrite ⟨s.ph.toNat, hp⟩ (levelFor s.row[s.ph.toNat] s.duty)).nextPhase
  | compose (hst : s.st = .compose) : SeqEffect s ((s.setPorts (portLoOf s.row) (portHiOf s.row)).goto .wrLo)
  | wrLo (hst : s.st = .wrLo) : SeqEffect s ((s.busWrite s.cfg.bus.regPortLo s.portLo).goto .wrHi)
  | wrHi (hst : s.st = .wrHi) : SeqEffect s ((s.busWrite s.cfg.bus.regPortHi s.portHi).goto .rdLo)
  | rdLo (hst : s.st = .rdLo) :
    SeqEffect s (((s.busRead s.cfg.bus.regPortLo).verify s.cfg.bus.regPortLo s.portLo (readReply s).r2).goto .rdHi)
  | rdHi (hst : s.st = .rdHi) :
    SeqEffect s (((s.busRead s.cfg.bus.regPortHi).verify s.cfg.bus.regPortHi s.portHi (readReply s).r2).goto .advance)
  | advance (d : Dir) (hst : s.st = .advance) (hd : s.dir = d.code) : SeqEffect s ((s.moveIdx d).goto .heartbeat)
  | heartbeat (hst : s.st = .heartbeat) : SeqEffect s ((s.driveHeartbeat (!s.hb)).goto .sleepArm)
  | sleepArm (hst : s.st = .sleepArm) : SeqEffect s (((s.setSleepMs s.period).arm s.period).goto .sleepWait)
  | sleepWait (hst : s.st = .sleepWait) (ht : s.tmr = .expired) : SeqEffect s (s.disarm.goto .lookup)

/-- Every `SEQ` step is one of those effects. -/
theorem exec_seqEffect (h : exec s.st.instr s = .next t) : SeqEffect s t := by
  by_cases hw : waitsForTimer s.st = true ∧ s.tmr ≠ .expired
  · rw [exec_hold hw.1 hw.2] at h
    injection h with h
    exact h ▸ .hold hw.1 hw.2
  have hx : waitsForTimer s.st = true → s.tmr = .expired := fun h1 => Classical.not_not.mp fun h2 => hw ⟨h1, h2⟩
  cases hst : s.st <;> rw [hst] at h hx <;> simp only [FsmState.instr] at h
  case initRstHigh => rw [exec_initRstHigh] at h; injection h with h; exact h ▸ .initRstHigh hst
  case initRstLow => rw [exec_initRstLow (hx rfl)] at h; injection h with h; exact h ▸ .initRstLow hst (hx rfl)
  case initRstRelease =>
    rw [exec_initRstRelease (hx rfl)] at h; injection h with h; exact h ▸ .initRstRelease hst (hx rfl)
  case initIodirLo => rw [exec_initIodirLo (hx rfl)] at h; injection h with h; exact h ▸ .initIodirLo hst (hx rfl)
  case initIodirHi => rw [exec_initIodirHi] at h; injection h with h; exact h ▸ .initIodirHi hst
  case lookup =>
    by_cases hi : s.idx.toNat < 20
    · rw [exec_lookup hi] at h; injection h with h; exact h ▸ .lookup hst hi
    · rw [exec_lookup_fault (by omega)] at h; injection h with h; exact h ▸ .idxRange hst (by omega)
  case pwmSet =>
    by_cases hp : s.ph.toNat < 5
    · rw [exec_pwmSet hp] at h; injection h with h; exact h ▸ .pwmSet hst hp
    · rw [exec_pwmSet_fault hp] at h; injection h with h; exact h ▸ .phRange hst (by omega)
  case compose => rw [exec_compose] at h; injection h with h; exact h ▸ .compose hst
  case wrLo => rw [exec_wrLo] at h; injection h with h; exact h ▸ .wrLo hst
  case wrHi => rw [exec_wrHi] at h; injection h with h; exact h ▸ .wrHi hst
  case rdLo => rw [exec_rdLo] at h; injection h with h; exact h ▸ .rdLo hst
  case rdHi => rw [exec_rdHi] at h; injection h with h; exact h ▸ .rdHi hst
  case advance =>
    rcases exec_advance_cases s with ⟨d, hd, he⟩ | ⟨hd, he⟩
    · rw [he] at h; injection h with h; exact h ▸ .advance d hst hd
    · rw [he] at h; injection h with h; exact h ▸ .dirCode hst hd
  case heartbeat => rw [exec_heartbeat] at h; injection h with h; exact h ▸ .heartbeat hst
  case sleepArm => rw [exec_sleepArm] at h; injection h with h; exact h ▸ .sleepArm hst
  case sleepWait => rw [exec_sleepWait (hx rfl)] at h; injection h with h; exact h ▸ .sleepWait hst (hx rfl)

end Sys2Proof.Machine
end

