-- ==== Sys2Proof/Laws/PerInstr.lean ====
section
/-! SUPPORT. Per instruction: its encoding has the width and the fixed bits its row of spec/opcode_table.json gives. -/

namespace Sys2Proof.Laws.TableBits

/-- The width in bits of a code and its value as spec/opcode_table.json numbers its bits. -/
def codeBits : Code → Nat × Nat
  | .st c => (4, c.toNat)
  | .dir c => (2, c.toNat)
  | .frame f => (24, f.toNat)

/-- A row of spec/opcode_table.json: its width, and the value its bits hi..lo are fixed at. -/
structure TableRow where
  width : Nat
  hi    : Nat
  lo    : Nat
  value : Nat

/-- The row of an instruction, copied from spec/opcode_table.json. -/
def row : Instr → TableRow
  | .initRstHigh => ⟨4, 3, 0, 0x0⟩
  | .initRstLow => ⟨4, 3, 0, 0x1⟩
  | .initRstRelease => ⟨4, 3, 0, 0x2⟩
  | .initIodirLo => ⟨4, 3, 0, 0x3⟩
  | .initIodirHi => ⟨4, 3, 0, 0x4⟩
  | .lookup => ⟨4, 3, 0, 0x5⟩
  | .pwmSet => ⟨4, 3, 0, 0x6⟩
  | .compose => ⟨4, 3, 0, 0x7⟩
  | .wrLo => ⟨4, 3, 0, 0x8⟩
  | .wrHi => ⟨4, 3, 0, 0x9⟩
  | .rdLo => ⟨4, 3, 0, 0xa⟩
  | .rdHi => ⟨4, 3, 0, 0xb⟩
  | .advance => ⟨4, 3, 0, 0xc⟩
  | .heartbeat => ⟨4, 3, 0, 0xd⟩
  | .sleepArm => ⟨4, 3, 0, 0xe⟩
  | .sleepWait => ⟨4, 3, 0, 0xf⟩
  | .wrdirLo => ⟨24, 23, 0, 0x400000⟩
  | .wrdirHi => ⟨24, 23, 0, 0x400100⟩
  | .wrportLo _ => ⟨24, 23, 8, 0x4012⟩
  | .wrportHi _ => ⟨24, 23, 8, 0x4013⟩
  | .rdportLo => ⟨24, 23, 0, 0x411200⟩
  | .rdportHi => ⟨24, 23, 0, 0x411300⟩
  | .advanceForward => ⟨2, 1, 0, 0x0⟩
  | .advanceReverse => ⟨2, 1, 0, 0x1⟩
  | .advanceStopped => ⟨2, 1, 0, 0x2⟩

/-- The encoding of i has its row's width and its row's fixed bits, with the bus bytes the table is written with. -/
def Statement (i : Instr) : Prop :=
  (codeBits (encode BusConfig.default i)).1 = (row i).width ∧
    (codeBits (encode BusConfig.default i)).2 / 2 ^ (row i).lo % 2 ^ ((row i).hi + 1 - (row i).lo) = (row i).value

theorem initRstHigh : Statement .initRstHigh := by
  constructor <;> decide

theorem initRstLow : Statement .initRstLow := by
  constructor <;> decide

theorem initRstRelease : Statement .initRstRelease := by
  constructor <;> decide

theorem initIodirLo : Statement .initIodirLo := by
  constructor <;> decide

theorem initIodirHi : Statement .initIodirHi := by
  constructor <;> decide

theorem lookup : Statement .lookup := by
  constructor <;> decide

theorem pwmSet : Statement .pwmSet := by
  constructor <;> decide

theorem compose : Statement .compose := by
  constructor <;> decide

theorem wrLo : Statement .wrLo := by
  constructor <;> decide

theorem wrHi : Statement .wrHi := by
  constructor <;> decide

theorem rdLo : Statement .rdLo := by
  constructor <;> decide

theorem rdHi : Statement .rdHi := by
  constructor <;> decide

theorem advance : Statement .advance := by
  constructor <;> decide

theorem heartbeat : Statement .heartbeat := by
  constructor <;> decide

theorem sleepArm : Statement .sleepArm := by
  constructor <;> decide

theorem sleepWait : Statement .sleepWait := by
  constructor <;> decide

theorem wrdirLo : Statement .wrdirLo := by
  constructor <;> decide

theorem wrdirHi : Statement .wrdirHi := by
  constructor <;> decide

theorem wrportLo (data : Byte) : Statement (.wrportLo data) := by
  refine ⟨rfl, ?_⟩
  have h := data.isLt
  simp only [codeBits, encode, row, BusConfig.default, frameWord_toNat]
  simp only [BitVec.reduceToNat]
  omega

theorem wrportHi (data : Byte) : Statement (.wrportHi data) := by
  refine ⟨rfl, ?_⟩
  have h := data.isLt
  simp only [codeBits, encode, row, BusConfig.default, frameWord_toNat]
  simp only [BitVec.reduceToNat]
  omega

theorem rdportLo : Statement .rdportLo := by
  constructor <;> decide

theorem rdportHi : Statement .rdportHi := by
  constructor <;> decide

theorem advanceForward : Statement .advanceForward := by
  constructor <;> decide

theorem advanceReverse : Statement .advanceReverse := by
  constructor <;> decide

theorem advanceStopped : Statement .advanceStopped := by
  constructor <;> decide

end Sys2Proof.Laws.TableBits
end

