-- ==== Sys2Proof/Laws/Step.lean ====
section
/-! SUPPORT. What one step of the machine can be, and what each agent's step does, said once. -/

namespace Sys2Proof.Machine

variable {s t u : State}

@[simp] theorem fetch_eq (s : State) : fetch s = s.st.instr := by
  simp [fetch]

theorem seqStep_alive (h : s.fault = none) : seqStep s = exec s.st.instr s := by
  unfold seqStep; rw [h, fetch_eq]

theorem seqStep_faulted {f : Fault} (h : s.fault = some f) : seqStep s = .fault f := by
  unfold seqStep; rw [h]

/-- A `SEQ` step that answers next is the micro-operation of `ST` on a block without a fault. -/
theorem seqStep_cases (h : seqStep s = .next t) : s.fault = none ∧ exec s.st.instr s = .next t := by
  cases hf : s.fault with
  | none => rw [seqStep_alive hf] at h; exact ⟨rfl, h⟩
  | some f => rw [seqStep_faulted hf] at h; cases h

/-- Every way a step answers next: the block's step, or one agent's. -/
theorem step_cases (h : step s = .next t) :
    (∃ rest, (s.sched = .seq :: rest ∨ s.sched = [] ∧ rest = [] ∧ holdsOnTimer s = false) ∧ s.fault = none ∧
        exec s.st.instr { s with sched := rest } = .next t) ∨
      (s.sched = [] ∧ holdsOnTimer s = true ∧ t = tmrStep s) ∨
      (∃ rest, s.sched = .tmr :: rest ∧ t = tmrStep { s with sched := rest }) ∨
      (∃ w rest, s.sched = .ctl w :: rest ∧ t = ctlWrite w { s with sched := rest }) ∨
      (∃ snap press order rest, s.sched = .tick snap press order :: rest ∧
        t = refEnvTick snap press order { s with sched := rest }) ∨
      (∃ rest, s.sched = .ctlNext :: rest ∧ t = ctlNext { s with sched := rest }) ∨
      (∃ v rest, s.sched = .devRd v :: rest ∧ t = setDevRd v { s with sched := rest }) ∨
      (∃ rest, s.sched = .powerCycle :: rest ∧ t = powerCycle { s with sched := rest }) := by
  unfold step at h
  split at h
  · next hs =>
    split at h
    · next hh => injection h with h; exact .inr (.inl ⟨hs, hh, h.symm⟩)
    · next hh =>
      obtain ⟨hf, he⟩ := seqStep_cases h
      have hs' : { s with sched := [] } = s := by cases s; cases hs; rfl
      refine .inl ⟨[], .inr ⟨hs, rfl, by simpa using hh⟩, hf, ?_⟩
      rw [hs']; exact he
  · next rest hs =>
    obtain ⟨hf, he⟩ := seqStep_cases h
    exact .inl ⟨rest, .inl hs, hf, he⟩
  · next rest hs => injection h with h; exact .inr (.inr (.inl ⟨rest, hs, h.symm⟩))
  · next w rest hs => injection h with h; exact .inr (.inr (.inr (.inl ⟨w, rest, hs, h.symm⟩)))
  · next a b c rest hs =>
    injection h with h; exact .inr (.inr (.inr (.inr (.inl ⟨a, b, c, rest, hs, h.symm⟩))))
  · next rest hs => injection h with h; exact .inr (.inr (.inr (.inr (.inr (.inl ⟨rest, hs, h.symm⟩)))))
  · next v rest hs =>
    injection h with h; exact .inr (.inr (.inr (.inr (.inr (.inr (.inl ⟨v, rest, hs, h.symm⟩))))))
  · next rest hs =>
    injection h with h; exact .inr (.inr (.inr (.inr (.inr (.inr (.inr ⟨rest, hs, h.symm⟩))))))

/-- A `TMR` step changes the timer alone, and only an armed one. -/
theorem tmrStep_cases (s : State) :
    (∃ ms, s.tmr = .armed ms ∧ tmrStep s = { s with tmr := .expired }) ∨ (s.tmr.isArmed = false ∧ tmrStep s = s) := by
  unfold tmrStep
  cases h : s.tmr with
  | idle => exact .inr ⟨rfl, rfl⟩
  | armed ms => exact .inl ⟨ms, rfl, rfl⟩
  | expired => exact .inr ⟨rfl, rfl⟩

/-- A `CTL` write changes one input and nothing else. -/
theorem ctlWrite_cases (w : CtlWrite) (s : State) :
    (∃ c, w = .dir c ∧ ctlWrite w s = { s with dir := c }) ∨
      (∃ d, w = .duty d ∧ ctlWrite w s = { s with duty := d % 2 ^ s.cfg.dutyW }) ∨
      (∃ p, w = .period p ∧ ctlWrite w s = { s with period := p % 2 ^ s.cfg.periodW }) := by
  cases w with
  | dir c => exact .inl ⟨c, rfl, rfl⟩
  | duty d => exact .inr (.inl ⟨d, rfl, rfl⟩)
  | period p => exact .inr (.inr ⟨p, rfl, rfl⟩)

/-- A duty that fits its width is written as it is. -/
theorem ctlWrite_duty {s : State} {d : Nat} (h : d < 2 ^ s.cfg.dutyW) :
    ctlWrite (.duty d) s = { s with duty := d } := by
  simp only [ctlWrite, Nat.mod_eq_of_lt h]

/-- A period that fits its width is written as it is. -/
theorem ctlWrite_period {s : State} {p : Nat} (h : p < 2 ^ s.cfg.periodW) :
    ctlWrite (.period p) s = { s with period := p } := by
  simp only [ctlWrite, Nat.mod_eq_of_lt h]

/-- A `CTL` write leaves both inputs within their widths. -/
theorem ctlWrite_fits (w : CtlWrite) {s : State} (hd : s.duty < 2 ^ s.cfg.dutyW) (hp : s.period < 2 ^ s.cfg.periodW) :
    (ctlWrite w s).duty < 2 ^ s.cfg.dutyW ∧ (ctlWrite w s).period < 2 ^ s.cfg.periodW := by
  cases w with
  | dir c => exact ⟨hd, hp⟩
  | duty d => exact ⟨Nat.mod_lt _ (Nat.two_pow_pos _), hp⟩
  | period p => exact ⟨hd, Nat.mod_lt _ (Nat.two_pow_pos _)⟩

/-- A tick changes `REF_ENV`'s own state alone: its accumulator and its pending writes. -/
theorem refEnvTick_cases (snap : Vector Bool 5) (press : Bool) (order : ResetOrder) (s : State) :
    ∃ ws n, refEnvTick snap press order s = { s with pending := ws, acc := n } ∧
      (ws = s.pending ∨ ws = [] ∨ (∃ d : Int, ws = [.period (adjustedPeriod s d)]) ∨
        (∃ d : Int, ws = [.duty (adjustedDuty s d)]) ∨ ws = resetWrites order s) := by
  unfold refEnvTick
  split
  · exact ⟨s.pending, s.acc, rfl, .inl rfl⟩
  · split
    · exact ⟨s.pending, accBase, rfl, .inl rfl⟩
    · split
      · exact ⟨s.pending, s.acc, rfl, .inl rfl⟩
      · next a _ =>
        cases a with
        | periodUp => exact ⟨_, _, rfl, .inr (.inr (.inl ⟨_, rfl⟩))⟩
        | periodDown => exact ⟨_, _, rfl, .inr (.inr (.inl ⟨_, rfl⟩))⟩
        | dutyUp => exact ⟨_, _, rfl, .inr (.inr (.inr (.inl ⟨_, rfl⟩)))⟩
        | dutyDown => exact ⟨_, _, rfl, .inr (.inr (.inr (.inl ⟨_, rfl⟩)))⟩
        | modeReset =>
          cases press with
          | true => exact ⟨_, _, rfl, .inr (.inr (.inr (.inr rfl)))⟩
          | false => exact ⟨_, _, rfl, .inr (.inl rfl)⟩

/-- An invariant that every agent's own step keeps is kept by every step of the machine. The premises are, in order: the block's
step; taking the first item off the schedule; a timer step; a scheduled CTL write; `REF_ENV`'s next write; its tick; `dev rd = v`;
a power cycle. -/
theorem step_keeps {P : State → Prop}
    (hseq : ∀ s t : State, P s → s.fault = none → SeqEffect s t → P t)
    (hpop : ∀ (s : State) (a : Action) (rest : List Action), P s → s.sched = a :: rest → P { s with sched := rest })
    (htmr : ∀ s : State, P s → P (tmrStep s))
    (hctl : ∀ (s : State) (w : CtlWrite) (rest : List Action), P s → s.sched = .ctl w :: rest →
      P (ctlWrite w { s with sched := rest }))
    (hnext : ∀ s : State, P s → P (ctlNext s))
    (htick : ∀ (s : State) (snap : Vector Bool 5) (press : Bool) (order : ResetOrder), P s →
      P (refEnvTick snap press order s))
    (hrd : ∀ (s : State) (v : Byte), P s → P (setDevRd v s))
    (hpow : ∀ s : State, P s → P (powerCycle s)) (hs : P s) (h : step s = .next t) : P t := by
  rcases step_cases h with ⟨rest, h1, hf, h2⟩ | ⟨_, _, rfl⟩ | ⟨rest, h1, rfl⟩ | ⟨w, rest, h1, rfl⟩ |
    ⟨a, b, c, rest, h1, rfl⟩ | ⟨rest, h1, rfl⟩ | ⟨v, rest, h1, rfl⟩ | ⟨rest, h1, rfl⟩
  · have hp : P { s with sched := rest } := by
      rcases h1 with h1 | ⟨h1, h3, _⟩
      · exact hpop s _ rest hs h1
      · rw [h3, ← h1]; exact hs
    exact hseq _ t hp hf (exec_seqEffect (s := { s with sched := rest }) h2)
  · exact htmr _ hs
  · exact htmr _ (hpop s _ rest hs h1)
  · exact hctl s w rest hs h1
  · exact htick _ _ _ _ (hpop s _ rest hs h1)
  · exact hnext _ (hpop s _ rest hs h1)
  · exact hrd _ _ (hpop s _ rest hs h1)
  · exact hpow _ (hpop s _ rest hs h1)

/-- What no environment step but a power cycle touches: the parameters, the block's registers, the sinks, the expander, the trace. -/
structure SameBlock (s t : State) : Prop where
  cfg     : t.cfg = s.cfg
  st      : t.st = s.st
  idx     : t.idx = s.idx
  row     : t.row = s.row
  ph      : t.ph = s.ph
  portLo  : t.portLo = s.portLo
  portHi  : t.portHi = s.portHi
  hb      : t.hb = s.hb
  sleepMs : t.sleepMs = s.sleepMs
  rstN    : t.rstN = s.rstN
  fault   : t.fault = s.fault
  level   : t.level = s.level
  dev     : t.dev = s.dev
  devDraw : t.devDraw = s.devDraw
  trace   : t.trace = s.trace
  draws   : t.draws = s.draws

theorem sameBlock_pop (s : State) (rest : List Action) : SameBlock s { s with sched := rest } := by
  constructor <;> rfl

theorem sameBlock_tmrStep (s : State) : SameBlock s (tmrStep s) := by
  rcases tmrStep_cases s with ⟨_, _, h⟩ | ⟨_, h⟩ <;> rw [h] <;> constructor <;> rfl

theorem sameBlock_ctlWrite (w : CtlWrite) (s : State) : SameBlock s (ctlWrite w s) := by
  cases w <;> constructor <;> rfl

theorem sameBlock_ctlNext (s : State) : SameBlock s (ctlNext s) := by
  unfold ctlNext
  split
  · constructor <;> rfl
  · next w rest _ => cases w <;> constructor <;> rfl

theorem sameBlock_refEnvTick (snap : Vector Bool 5) (press : Bool) (order : ResetOrder) (s : State) :
    SameBlock s (refEnvTick snap press order s) := by
  obtain ⟨ws, n, h, _⟩ := refEnvTick_cases snap press order s
  rw [h]; constructor <;> rfl

theorem sameBlock_setDevRd (v : Byte) (s : State) : SameBlock s (setDevRd v s) := by
  constructor <;> rfl

/-- An invariant over the fields of `SameBlock` is kept by every step of the machine if the block's steps keep it and every power-on
state has it. -/
theorem step_keeps_block {P : State → Prop} (hseq : ∀ s t : State, P s → s.fault = none → SeqEffect s t → P t)
    (henv : ∀ s t : State, P s → SameBlock s t → P t)
    (hpow : ∀ (s : State) (n : Nat) (sched : List Action), P s → P (State.powerOn s.cfg n sched)) (hs : P s)
    (h : step s = .next t) : P t :=
  step_keeps hseq (fun s _ rest hp _ => henv _ _ hp (sameBlock_pop s rest)) (fun s hp => henv _ _ hp (sameBlock_tmrStep s))
    (fun s w rest hp _ => henv _ _ (henv _ _ hp (sameBlock_pop s rest)) (sameBlock_ctlWrite w _))
    (fun s hp => henv _ _ hp (sameBlock_ctlNext s)) (fun s a b c hp => henv _ _ hp (sameBlock_refEnvTick a b c s))
    (fun s v hp => henv _ _ hp (sameBlock_setDevRd v s)) (fun s hp => hpow s s.draws s.sched hp) hs h

/-- The clamp keeps its bounds (60_exceptions.md R159). -/
theorem clampInt_bounds {lo hi : Int} (h : lo ≤ hi) (v : Int) : lo ≤ clampInt lo hi v ∧ clampInt lo hi v ≤ hi := by
  unfold clampInt; omega

/-- What the clamp gives back as a number is its value, and keeps the bounds. -/
theorem clampInt_toNat {lo hi : Nat} (h : lo ≤ hi) (v : Int) :
    ((clampInt lo hi v).toNat : Int) = clampInt lo hi v ∧ lo ≤ (clampInt lo hi v).toNat ∧
      (clampInt lo hi v).toNat ≤ hi := by
  have := clampInt_bounds (Int.ofNat_le.mpr h) v
  omega

end Sys2Proof.Machine
end

