-- ==== Sys2Proof/Tests/Slice0.lean ====
section
/-! SUPPORT. Small tests, expected results from the spec's own encodings and 95_test_vectors.md, and for every statement with
hypotheses a witness that meets them. -/

open Sys2Proof Sys2Proof.Machine

namespace Sys2Proof.Tests

/-! ### The fixture of 95_test_vectors.md section 0 -/

/-- `FIX`: 0 where (s − 4k) mod 20 is 0 or 10, −1 for 1..9, +1 for 11..19. -/
def fixTern (s k : Nat) : Tern :=
  let d := (s + 80 - 4 * k) % 20
  if d = 0 then .zero else if d < 10 then .neg else if d = 10 then .zero else .pos

def fixTable : PhaseTable := Vector.ofFn fun s => Vector.ofFn fun k => fixTern s.val k.val

def fixCfg : Config :=
  { phaseTable := fixTable, wrapMax := 1000, msMin := 2, msMax := 100, defaultPeriodMs := 10
    pwmCh := #v[⟨0, 0⟩, ⟨0, 1⟩, ⟨1, 0⟩, ⟨1, 1⟩, ⟨2, 0⟩]
    tRstPreMs := 10, tRstLowMs := 20, tRstPostMs := 0, debounceTickMs := 50
    btnPrio := [.periodUp, .periodDown, .dutyUp, .dutyDown, .modeReset]
    btnMap := #v[.periodUp, .periodDown, .dutyUp, .dutyDown, .modeReset], bus := BusConfig.default }

/-- The ternary codes of `FIX`. -/
def fixCodes : TableCodes :=
  (List.range 20).map fun s => (List.range 5).map fun k => (fixTern s k).code

/-- Power-on with the fixture, the five levels set to 7 so that a write shows. -/
def start : State := { State.powerOn fixCfg 0 [] with level := #v[7, 7, 7, 7, 7] }

/-- Row 0 of `FIX`. -/
def row0 : Row := #v[.zero, .pos, .pos, .neg, .neg]

/-- The row of the source's worked example L1-1. -/
def rowL1 : Row := #v[.neg, .zero, .pos, .pos, .zero]

/-- The block in the middle of the first iteration, after WR_HI, with the fixture's row 0 driven. -/
def midRun : State :=
  { start with
    st := .rdLo, row := row0, ph := 4, portLo := 0xC0, portHi := 0x00, level := #v[0, 500, 500, 500, 500]
    dev := [(0x00, 0x00), (0x01, 0x00), (0x12, 0xC0), (0x13, 0x00)], devRd := some 0xC0
    trace := handshakeEvents fixCfg ++ [dirFrame fixCfg 0x00 ⟨0, 0, 0⟩, dirFrame fixCfg 0x01 ⟨0, 0, 0⟩] }

/-- The block at the end of the iteration, its sleep over. -/
def slept : State := { midRun with st := .sleepWait, hb := true, idx := 1, sleepMs := 10, tmr := .expired }

/-- p holds of the next state. -/
def nextHas (o : Host.Outcome State Fault Refusal) (p : State → Bool) : Bool :=
  match o with
  | .next t => p t
  | .fault _ => false
  | .refused _ => false

/-- The step stops with this fault. -/
def faultsWith (o : Host.Outcome State Fault Refusal) (f : Fault) : Bool :=
  match o with
  | .next _ => false
  | .fault g => g = f
  | .refused _ => false

/-- The step is refused for this reason. -/
def refusedWith (o : Host.Outcome State Fault Refusal) (r : Refusal) : Bool :=
  match o with
  | .next _ => false
  | .fault _ => false
  | .refused q => q = r

/-- The bytes sent, the mismatches reported, and the remaining events, which carry no received byte. -/
def sent (s : State) : List (Byte × Byte × Byte) :=
  s.trace.filterMap fun e => match e with
    | .frame b0 b1 b2 _ _ _ => some (b0, b1, b2)
    | _ => none

def otherEvents (s : State) : List Event :=
  s.trace.filterMap fun e => match e with
    | .frame _ _ _ _ _ _ => none
    | e => some e

/-! ### Decoding: words written out from 30_encoding.md R64, R66, R68 -/

theorem test_decode_startup :
    decodeTableWord 4 0b0000 = some .initRstHigh ∧ decodeTableWord 4 0b0001 = some .initRstLow ∧
      decodeTableWord 4 0b0010 = some .initRstRelease ∧ decodeTableWord 4 0b0011 = some .initIodirLo ∧
      decodeTableWord 4 0b0100 = some .initIodirHi := by decide

theorem test_decode_drive :
    decodeTableWord 4 0b0101 = some .lookup ∧ decodeTableWord 4 0b0110 = some .pwmSet ∧
      decodeTableWord 4 0b0111 = some .compose ∧ decodeTableWord 4 0b1000 = some .wrLo ∧
      decodeTableWord 4 0b1001 = some .wrHi ∧ decodeTableWord 4 0b1010 = some .rdLo ∧
      decodeTableWord 4 0b1011 = some .rdHi := by decide

theorem test_decode_pacing :
    decodeTableWord 4 0b1100 = some .advance ∧ decodeTableWord 4 0b1101 = some .heartbeat ∧
      decodeTableWord 4 0b1110 = some .sleepArm ∧ decodeTableWord 4 0b1111 = some .sleepWait := by decide

/-- A frame's bits, field by field: DEVCODE 0100, HWADDR 000, RW, REG, DATA. -/
theorem test_decode_frames :
    decodeTableWord 24 0b0100_000_0_00000000_00000000 = some .wrdirLo ∧
      decodeTableWord 24 0b0100_000_0_00000001_00000000 = some .wrdirHi ∧
      decodeTableWord 24 0b0100_000_0_00010010_10000000 = some (.wrportLo 0x80) ∧
      decodeTableWord 24 0b0100_000_0_00010011_00000001 = some (.wrportHi 0x01) ∧
      decodeTableWord 24 0b0100_000_1_00010010_00000000 = some .rdportLo ∧
      decodeTableWord 24 0b0100_000_1_00010011_00000000 = some .rdportHi := by decide

theorem test_decode_directions :
    decodeTableWord 2 0b00 = some .advanceForward ∧ decodeTableWord 2 0b01 = some .advanceReverse ∧
      decodeTableWord 2 0b10 = some .advanceStopped := by decide

/-- R64's reserved code, R72's frames PSEQ5 does not emit, a read with a data byte: rejected by name. -/
theorem test_decode_rejects :
    decode BusConfig.default (.dir 0b11) = .error .reservedDirCode ∧
      decode BusConfig.default (.frame 0x400A00) = .error .unknownFrame ∧
      decode BusConfig.default (.frame 0x410000) = .error .unknownFrame ∧
      decode BusConfig.default (.frame 0x421200) = .error .unknownFrame ∧
      decode BusConfig.default (.frame 0x4112FF) = .error .fixedByte ∧
      decode BusConfig.default (.frame 0x400001) = .error .fixedByte := by decide

/-- R65's example and two rows of the fixture's table. -/
theorem test_row_codes :
    rowCode rowL1 = 0b00_01_01_00_11#10 ∧ rowCode fixTable[0] = 0x3D4 ∧ rowCode fixTable[19] = 0x3D5 ∧
      rowOfCode 0x317 = some fixTable[2] ∧ rowOfCode 0b00_00_00_00_10#10 = none := by decide

theorem test_frame_fields :
    frameDevCode 0x411200#24 = 0b0100 ∧ frameHwAddr 0x411200#24 = 0b000 ∧ frameRw 0x411200#24 = true ∧
      frameRw 0x401280#24 = false ∧ frameB1 0x401280#24 = 0x12 ∧ frameB2 0x401280#24 = 0x80 := by decide

/-! ### Well-formedness: an ill-formed term for each check -/

theorem test_table_ok : fixCodes.check = none := by decide

/-- 40_phase_table.md R81 (a). -/
theorem test_table_of_19_rows : TableCodes.check (fixCodes.drop 1) = some .rowCount := by decide

/-- R81 (b). -/
theorem test_table_with_a_short_row : TableCodes.check (fixCodes.set 7 [0b01#2]) = some .rowLength := by decide

/-- R81 (c), 30_encoding.md R63. -/
theorem test_table_with_reserved_code :
    TableCodes.check (fixCodes.set 19 [0b00#2, 0b00#2, 0b00#2, 0b00#2, 0b10#2]) = some .reservedTernary := by decide

theorem test_cfg_ok : fixCfg.wf = true := by decide

theorem test_cfg_wrap_max_below_5 : Config.wf { fixCfg with wrapMax := 4 } = false := by decide

theorem test_cfg_period_bounds_crossed : Config.wf { fixCfg with msMin := 101 } = false := by decide

theorem test_cfg_default_period_low : Config.wf { fixCfg with defaultPeriodMs := 1 } = false := by decide

theorem test_cfg_default_period_high : Config.wf { fixCfg with defaultPeriodMs := 101 } = false := by decide

/-- 1000 needs 10 bits and 100 needs 7 (00_scope.md R10, R11). -/
theorem test_cfg_widths :
    Config.wf { fixCfg with dutyW := 10, periodW := 7 } = true ∧ Config.wf { fixCfg with dutyW := 9 } = false ∧
      Config.wf { fixCfg with periodW := 6 } = false := by decide

theorem test_cfg_pwm_output_used_twice :
    Config.wf { fixCfg with pwmCh := #v[⟨0, 0⟩, ⟨0, 1⟩, ⟨0, 0⟩, ⟨1, 1⟩, ⟨2, 0⟩] } = false := by decide

theorem test_cfg_priority_without_an_action :
    Config.wf { fixCfg with btnPrio := [.periodUp, .periodDown, .dutyUp, .dutyDown, .dutyDown] } = false := by decide

theorem test_bus_bytes_alike :
    BusConfig.framesDistinct { opWr := 0x41 } = false ∧ BusConfig.framesDistinct { regDirLo := 0x13 } = false := by decide

theorem test_boot_refuses_and_runs :
    refusedWith (boot (fixCodes.drop 1) fixCfg) (.illFormedConfig .rowCount) = true ∧
      refusedWith (boot fixCodes { fixCfg with wrapMax := 4 }) (.illFormedConfig .parameter) = true ∧
      nextHas (boot fixCodes fixCfg) (fun t => t.st = .initRstHigh && t.cfg.phaseTable = fixTable) = true := by decide

/-! ### One step of each instruction, with the vectors of 95_test_vectors.md section 2 -/

/-- 2.7. -/
theorem test_init_rst_high :
    nextHas (exec .initRstHigh start) (fun t => t.rstN && t.tmr = .armed 10 && t.st = .initRstLow &&
      t.trace = [.line .rstN true, .timer 10]) = true := by decide

theorem test_init_rst_low :
    nextHas (exec .initRstLow { start with tmr := .expired }) (fun t => !t.rstN && t.tmr = .armed 20 &&
      t.st = .initRstRelease && t.trace = [.line .rstN false, .timer 20]) = true := by decide

theorem test_init_rst_release :
    nextHas (exec .initRstRelease { start with tmr := .expired, rstN := false }) (fun t => t.rstN && t.tmr = .armed 0 &&
      t.st = .initIodirLo && t.trace = [.line .rstN true, .timer 0]) = true := by decide

theorem test_init_iodir_lo :
    nextHas (exec .initIodirLo { start with tmr := .expired }) (fun t => sent t = [(0x40, 0x00, 0x00)] && t.tmr = .idle &&
      t.dev = [(0x00, 0x00)] && t.st = .initIodirHi) = true := by decide

theorem test_init_iodir_hi :
    nextHas (exec .initIodirHi { start with dev := [(0x00, 0x00)] }) (fun t => sent t = [(0x40, 0x01, 0x00)] &&
      t.dev = [(0x00, 0x00), (0x01, 0x00)] && t.st = .lookup) = true := by decide

/-- 2.1. -/
theorem test_lookup_4 :
    nextHas (exec .lookup { start with idx := 4, ph := 3 }) (fun t => t.row = #v[.neg, .zero, .pos, .pos, .neg] &&
      t.ph = 0 && t.st = .pwmSet) = true := by decide

theorem test_lookup_20 :
    nextHas (exec .lookup { start with st := .lookup, idx := 20 }) (fun t => t.fault = some (.idxRange 20) &&
      t.st = .lookup && t.row = start.row) = true := by decide

/-- 2.2: phase 3 of row 0. -/
theorem test_pwm_set_3 :
    nextHas (exec .pwmSet { start with row := row0, ph := 3 }) (fun t => t.level = #v[7, 7, 7, 500, 7] &&
      t.trace = [.pwm 3 500] && t.ph = 4 && t.st = .pwmSet) = true := by decide

theorem test_pwm_set_4 :
    nextHas (exec .pwmSet { start with row := rowL1, ph := 4 }) (fun t => t.level = #v[7, 7, 7, 7, 0] && t.ph = 4 &&
      t.st = .compose) = true := by decide

/-- L1-1. -/
theorem test_compose_worked_example :
    nextHas (exec .compose { start with row := rowL1 }) (fun t => t.portLo = 0x80 && t.portHi = 0x01 && t.st = .wrLo) = true := by
  decide

/-- 2.3: a row of −1 only, and one of +1 only. -/
theorem test_compose_extremes :
    nextHas (exec .compose { start with row := #v[.neg, .neg, .neg, .neg, .neg] }) (fun t => t.portLo = 0 && t.portHi = 0) = true ∧
      nextHas (exec .compose { start with row := #v[.pos, .pos, .pos, .pos, .pos] })
        (fun t => t.portLo = 0xE0 && t.portHi = 0x03) = true := by decide

/-- 2.4. -/
theorem test_wr_lo :
    nextHas (exec .wrLo { start with portLo := 0xC0, portHi := 0x03 }) (fun t => sent t = [(0x40, 0x12, 0xC0)] &&
      t.dev = [(0x12, 0xC0)] && t.st = .wrHi) = true := by decide

theorem test_wr_hi :
    nextHas (exec .wrHi { start with portLo := 0xC0, portHi := 0x03 }) (fun t => sent t = [(0x40, 0x13, 0x03)] &&
      t.dev = [(0x13, 0x03)] && t.st = .rdLo) = true := by decide

theorem test_rd_lo_equal :
    nextHas (exec .rdLo { start with portLo := 0xC0, devRd := some 0xC0 }) (fun t => sent t = [(0x41, 0x12, 0x00)] &&
      otherEvents t = [] && t.st = .rdHi) = true := by decide

theorem test_rd_lo_mismatch :
    nextHas (exec .rdLo { start with portLo := 0xC0, devRd := some 0x40 })
      (fun t => otherEvents t = [.mismatch 0x12 0xC0 0x40] && t.devRd = none) = true := by decide

/-- A bit no phase drives counts too. -/
theorem test_rd_hi_mismatch :
    nextHas (exec .rdHi { start with portHi := 0x00, devRd := some 0x04 }) (fun t => sent t = [(0x41, 0x13, 0x00)] &&
      otherEvents t = [.mismatch 0x13 0x00 0x04] && t.st = .advance) = true := by decide

theorem test_rd_hi_equal :
    nextHas (exec .rdHi { start with portHi := 0x03, devRd := some 0x03 }) (fun t => otherEvents t = []) = true := by decide

/-- The frame rows send their bytes and leave `ST` where it was. -/
theorem test_frame_rows :
    nextHas (exec .wrdirLo start) (fun t => sent t = [(0x40, 0x00, 0x00)] && t.st = .initRstHigh) = true ∧
      nextHas (exec .wrdirHi start) (fun t => sent t = [(0x40, 0x01, 0x00)] && t.dev = [(0x01, 0x00)]) = true ∧
      nextHas (exec (.wrportLo 0x20) start) (fun t => sent t = [(0x40, 0x12, 0x20)] && t.portLo = 0x00) = true ∧
      nextHas (exec (.wrportHi 0x02) start) (fun t => sent t = [(0x40, 0x13, 0x02)] && t.dev = [(0x13, 0x02)]) = true ∧
      nextHas (exec .rdportLo start) (fun t => sent t = [(0x41, 0x12, 0x00)] && t.dev = []) = true ∧
      nextHas (exec .rdportHi start) (fun t => sent t = [(0x41, 0x13, 0x00)] && t.dev = []) = true := by decide

/-- 2.5. -/
theorem test_advance_forward_wraps :
    nextHas (exec .advance { start with idx := 19, dir := 0b00 }) (fun t => t.idx = 0 && t.st = .heartbeat) = true ∧
      nextHas (exec .advance { start with idx := 0, dir := 0b01 }) (fun t => t.idx = 19) = true ∧
      nextHas (exec .advance { start with idx := 19, dir := 0b10 }) (fun t => t.idx = 19) = true := by decide

theorem test_advance_reserved_code :
    nextHas (exec .advance { start with st := .advance, idx := 7, dir := 0b11 }) (fun t => t.idx = 7 && t.st = .advance &&
      t.fault = some (.dirCode 0b11)) = true := by decide

theorem test_direction_arms :
    nextHas (exec .advanceForward { start with idx := 18 }) (fun t => t.idx = 19) = true ∧
      nextHas (exec .advanceReverse { start with idx := 10 }) (fun t => t.idx = 9) = true ∧
      nextHas (exec .advanceStopped { start with idx := 19 }) (fun t => t.idx = 19) = true := by decide

/-- 2.6. -/
theorem test_heartbeat :
    nextHas (exec .heartbeat start) (fun t => t.hb && t.trace = [.line .heartbeat true] && t.st = .sleepArm) = true ∧
      nextHas (exec .heartbeat { start with hb := true }) (fun t => !t.hb && t.trace = [.line .heartbeat false]) = true := by
  decide

theorem test_sleep_arm :
    nextHas (exec .sleepArm start) (fun t => t.sleepMs = 10 && t.tmr = .armed 10 && t.trace = [.timer 10] &&
      t.st = .sleepWait) = true := by decide

theorem test_sleep_wait :
    nextHas (exec .sleepWait { start with st := .sleepWait, tmr := .armed 10 }) (fun t => t.st = .sleepWait &&
      t.tmr = .armed 10) = true ∧
      nextHas (exec .sleepWait { start with tmr := .expired }) (fun t => t.st = .lookup && t.tmr = .idle) = true := by decide

/-! ### The machine's step and the environment -/

/-- P5: the faulted block answers its fault. -/
theorem test_step_of_a_faulted_block :
    faultsWith (step { start with fault := some (.dirCode 0b11) }) (.dirCode 0b11) = true := by decide

/-- With nothing else scheduled a held block's timer expires, and a scheduled SEQ step of a held block changes nothing. -/
theorem test_step_while_held :
    nextHas (step { start with st := .sleepWait, tmr := .armed 10 }) (fun t => t.tmr = .expired && t.st = .sleepWait) = true ∧
      nextHas (step { start with st := .sleepWait, tmr := .armed 10, sched := [.seq] })
        (fun t => t.tmr = .armed 10 && t.st = .sleepWait && t.sched = []) = true := by decide

theorem test_power_cycle :
    nextHas (step { start with st := .advance, idx := 7, fault := some (.dirCode 0b11), duty := 9, sched := [.powerCycle] })
      (fun t => t.st = .initRstHigh && t.idx = 0 && t.fault = none && t.trace = [] && t.duty = 500) = true := by
  decide

/-- 60_exceptions.md R170: a TMR step is enabled in Armed only. -/
theorem test_tmr_step :
    step { slept with tmr := .armed 10, sched := [.tmr] } = .next { slept with tmr := .expired, sched := [] } ∧
      step { slept with tmr := .expired, sched := [.tmr] } = .next { slept with tmr := .expired, sched := [] } ∧
      step { start with tmr := .idle, sched := [.tmr] } = .next { start with tmr := .idle, sched := [] } := ⟨rfl, rfl, rfl⟩

/-- A configured width other than the default: 10 bits of a `DUTY` write, none beyond them (log entry 3). -/
theorem test_configured_width :
    nextHas (step { start with cfg := { fixCfg with dutyW := 10 }, sched := [.ctl (.duty 1023)] }) (fun t => t.duty = 1023) = true ∧
      nextHas (step { start with cfg := { fixCfg with dutyW := 10 }, sched := [.ctl (.duty 1024)] }) (fun t => t.duty = 0) = true := by
  decide

/-- Of two `dev rd = v` before one read the later is the byte returned (log entry 29). -/
theorem test_later_dev_rd_replaces :
    nextHas (runSteps 3 { midRun with devRd := none, sched := [.devRd 0x11, .devRd 0x40, .seq] })
      (fun t => otherEvents t = otherEvents midRun ++ [.mismatch 0x12 0xC0 0x40]) = true := by decide

/-- A written register holds its byte until the reset line goes low; what it holds then is free. -/
theorem test_reset_line_frees_the_registers :
    devByte midRun 0x12 = 0xC0 ∧
      nextHas (exec .initRstLow { midRun with tmr := .expired }) (fun t => t.dev = [] && t.devDraw = midRun.draws &&
        t.draws = midRun.draws + 1) = true := by decide

/-- start with the tick of the input lines given and the write that follows it. -/
def withTick (snapshot : Vector Bool 5) (s : State) : State :=
  { s with sched := [.tick snapshot true .periodDutyDir, .ctlNext] }

/-- 2.8. -/
theorem test_duty_up_is_clamped :
    nextHas (runSteps 2 (withTick #v[false, false, true, false, false] { start with duty := 995, acc := 10 }))
      (fun t => t.duty = 1000 && t.acc = 15) = true := by decide

theorem test_duty_down_stops_at_5 :
    nextHas (runSteps 2 (withTick #v[false, false, false, true, false] { start with duty := 7, acc := 10 }))
      (fun t => t.duty = 5 && t.acc = 15) = true := by decide

theorem test_period_down_is_clamped :
    nextHas (runSteps 2 (withTick #v[false, true, false, false, false] { start with period := 5, acc := 10 }))
      (fun t => t.period = 2 && t.acc = 15) = true := by decide

theorem test_period_up_wins_by_priority :
    nextHas (runSteps 2 (withTick #v[true, false, true, false, true] { start with period := 98, duty := 990 }))
      (fun t => t.period = 100 && t.duty = 990 && t.acc = 10) = true := by decide

/-- L1-6, after the first of its three writes. -/
theorem test_mode_reset :
    nextHas (runSteps 2 { withTick #v[false, false, false, false, true] start with dir := 0b10, duty := 37, period := 99 })
      (fun t => t.duty = 37 && t.period = 10 && t.dir = 0b10 && t.pending = [.duty 500, .dir 0b00]) = true := by decide

/-- Floor of half an odd `WRAP_MAX`. -/
theorem test_mode_reset_floors_the_duty :
    (resetWrites .dutyPeriodDir { start with cfg := { fixCfg with wrapMax := 999 } }).head? = some (.duty 499) := by decide

/-- L1-8. -/
theorem test_release_resets_the_accumulator :
    nextHas (step (withTick #v[false, false, false, false, false] { start with acc := 20 })) (fun t => t.acc = 5 && t.duty = 500) =
      true := by decide

/-- A placed word is what the next step runs, from reset: a state code, a frame, a direction. -/
theorem test_placed_words :
    step (State.reset.withFetchWord 4 0b0101) = exec .lookup (State.reset.withFetchWord 4 0b0101) ∧
      nextHas (step (State.reset.withFetchWord 24 0x401303)) (fun t => sent t = [(0x40, 0x13, 0x03)]) = true ∧
      nextHas (step (State.reset.withFetchWord 2 0b01)) (fun t => t.idx = 19) = true := ⟨rfl, by decide, by decide⟩

/-! ### Witnesses: for each statement with hypotheses, a concrete state and operands that meet them together -/

/-- O2. -/
theorem witness_decode_of_encode :
    BusConfig.default.framesDistinct = true ∧ Instr.wf (.wrportHi 0xFF) = true ∧
      decode BusConfig.default (encode BusConfig.default (.wrportHi 0xFF)) = .ok (.wrportHi 0xFF) := by decide

/-- O3, one code of each format. -/
theorem witness_encode_of_decode :
    decode BusConfig.default (.st 0xF) = .ok .sleepWait ∧ decode BusConfig.default (.dir 0b10) = .ok .advanceStopped ∧
      decode BusConfig.default (.frame 0x4012FF) = .ok (.wrportLo 0xFF) := by decide

/-- O5: the fixture's table passes all three checks and its parameters keep R10; tables that fail one are in the tests above. -/
theorem witness_table_passes :
    (fixCodes.length = 20 ∧ (∀ r ∈ fixCodes, r.length = 5) ∧ ∀ r ∈ fixCodes, ∀ c ∈ r, c ≠ 0b10#2) ∧ fixCfg.wf = true := by decide

/-- O7. -/
theorem witness_step_runs_decoded :
    midRun.fault = none ∧ decode midRun.cfg.bus (.st midRun.st.code) = .ok .rdLo ∧ midRun.sched = [] ∧
      holdsOnTimer midRun = false ∧ { midRun with sched := [.seq, .tmr] }.sched = .seq :: [.tmr] ∧
      waitsForTimer { slept with tmr := .armed 0 }.st = true ∧ { slept with tmr := .armed 0 }.fault = none ∧
      { slept with tmr := .armed 0 }.sched = [] ∧ { slept with fault := some (.phRange 5) }.sched = [] := by decide

/-- O8. -/
theorem witness_placed_word : decodeTableWord 4 0xF = some .sleepWait ∧ decodeTableWord 2 0b10 = some .advanceStopped := by
  decide

/-- O9. -/
theorem witness_frames_and_arms :
    slept.tmr = .expired ∧ nextHas (exec .wrdirLo slept.disarm) (fun _ => true) = true ∧
      nextHas (exec .rdportHi slept) (fun _ => true) = true ∧ slept.dir = Dir.forward.code ∧
      nextHas (exec Dir.forward.instr slept) (fun _ => true) = true := by decide

/-- O10, clause 1: a waiting state, the last index, the last two phases, the last legal direction code. -/
theorem witness_next_state :
    slept.fault = none ∧ waitsForTimer slept.st = true ∧ slept.tmr = .expired ∧
      { midRun with st := .lookup, idx := 19 }.idx.toNat < 20 ∧ { midRun with st := .pwmSet, ph := 3 }.ph.toNat < 4 ∧
      { midRun with st := .pwmSet, ph := 4 }.ph.toNat < 5 ∧ { midRun with st := .advance, dir := 0b10 }.dir ≠ 0b11#2 := by decide

/-- O10, clauses 2 to 4, and O12, O14, O27 while held: an item of each agent scheduled for the held block. -/
theorem witness_hold :
    waitsForTimer { slept with tmr := .armed 0 }.st = true ∧ { slept with tmr := .armed 0 }.tmr ≠ .expired ∧
      nextHas (step { slept with tmr := .armed 0, sched := [.seq] }) (fun t => t.tmr = .armed 0 && t.st = .sleepWait) = true ∧
      nextHas (step { slept with tmr := .armed 0, sched := [.tmr] }) (fun t => t.tmr = .expired && t.st = .sleepWait) = true ∧
      nextHas (step { slept with tmr := .armed 0, sched := [.ctl (.dir 0b01)] }) (fun t => t.st = .sleepWait) = true ∧
      nextHas (step { slept with tmr := .armed 0, sched := [.powerCycle] }) (fun t => t.st = .initRstHigh) = true ∧
      { slept with fault := some (.phRange 5), sched := [.seq] }.sched = .seq :: [] := by decide

/-- O12, O13, O14, O27: the timer has expired. -/
theorem witness_expired : slept.tmr = .expired ∧ { start with st := .initRstLow, tmr := .expired }.tmr = .expired := by decide

/-- O15: the last index in range and the first out of it. -/
theorem witness_lookup : { midRun with idx := 19 }.idx.toNat < 20 ∧ 20 ≤ { midRun with idx := 20 }.idx.toNat := by decide

/-- O16: phases 3 and 4, and the first value out of range. -/
theorem witness_pwm_set :
    { midRun with ph := 3 }.ph.toNat < 4 ∧ { midRun with ph := 4 }.ph.toNat = 4 ∧ 5 ≤ { midRun with ph := 5 }.ph.toNat := by
  decide

/-- O18. -/
theorem witness_pwm_channels :
    midRun.cfg.pwmCh.toList.Nodup ∧ midRun.ph.toNat < 5 ∧ nextHas (exec .pwmSet midRun) (fun _ => true) = true ∧
      (⟨7, 1⟩ : PwmChan) ≠ midRun.cfg.pwmCh[4] := by decide

/-- O19: two states of one row and different duties. -/
theorem witness_compose :
    midRun.row = { midRun with duty := 5, dir := 0b10 }.row ∧ nextHas (exec .compose midRun) (fun _ => true) = true ∧
      nextHas (exec .compose { midRun with duty := 5, dir := 0b10 }) (fun _ => true) = true := by decide

/-- O23: each of the four codes. -/
theorem witness_advance :
    { midRun with dir := 0b00 }.dir = 0b00#2 ∧ { midRun with dir := 0b01 }.dir = 0b01#2 ∧ { midRun with dir := 0b10 }.dir = 0b10#2 ∧
      { midRun with dir := 0b11 }.dir = 0b11#2 := by decide

/-- O25. -/
theorem witness_heartbeat : midRun.hb = false := by decide

/-- O26. -/
theorem witness_sleep_arm :
    { midRun with sched := [.ctl (.period 99), .seq] }.sched = .ctl (.period 99) :: [.seq] ∧
      99 < 2 ^ midRun.cfg.periodW ∧ 2 ^ 32 - 1 < 2 ^ midRun.cfg.periodW := by decide

/-- O28: the last index, in each direction; after one Forward the premises of the last clause. -/
theorem witness_repeated_advances :
    { midRun with idx := 19 }.idx.toNat < 20 ∧ { midRun with idx := 19, dir := 0b01 }.dir = 0b01#2 ∧
      nextHas (exec .advance { midRun with idx := 19 }) (fun t => t.idx = 0) = true := by decide

/-- O29, O30: each fault is raised by a step of a state without one; a faulted block whose environment goes on. -/
theorem witness_faults :
    nextHas (step { midRun with st := .lookup, idx := 20 }) (fun t => t.fault = some (.idxRange 20)) = true ∧
      nextHas (step { midRun with st := .pwmSet, ph := 5 }) (fun t => t.fault = some (.phRange 5)) = true ∧
      nextHas (step { midRun with st := .advance, dir := 0b11 }) (fun t => t.fault = some (.dirCode 0b11)) = true ∧
      nextHas (step { midRun with fault := some (.phRange 5), sched := [.tmr] }) (fun t => t.fault = some (.phRange 5)) = true ∧
      nextHas (step { midRun with fault := some (.phRange 5), sched := [.powerCycle] }) (fun t => t.fault = none) = true ∧
      faultsWith (step { midRun with fault := some (.phRange 5), sched := [.seq] }) (.phRange 5) = true := by decide

/-- O31: a schedule that keeps the contract, at its bounds, and a state it is placed in. -/
theorem witness_contract :
    (∀ a ∈ [Action.ctl (.dir 0b10), .ctl (.duty 5), .ctl (.duty 1000), .ctl (.period 2), .ctl (.period 100), .powerCycle],
      a.meets fixCfg = true) ∧ midRun.fault = none ∧ midRun.idx.toNat < 20 ∧ midRun.ph.toNat < 5 ∧ midRun.dir ≠ 0b11#2 ∧
      (∀ a ∈ midRun.sched, a.meets midRun.cfg = true) ∧ ∀ w ∈ midRun.pending, w.dirLegal = true := by decide

/-- O32, O60: the configurations differ only in the free parameters; a `WRAP_MAX` of 10 keeps R10. A power cycle from a fault. -/
theorem witness_reset :
    Config.wf { fixCfg with wrapMax := 10 } = true ∧ InputsInContract (State.powerOn { fixCfg with wrapMax := 10 } 0 []) ∧
      { midRun with fault := some (.phRange 5), sched := [.powerCycle, .seq] }.sched = .powerCycle :: [.seq] := by decide

/-- O33: a step from an expired timer, an arming from Idle and one from Expired, and a TMR step on each timer state. -/
theorem witness_timer_in_step :
    TimerInStep slept ∧ nextHas (step slept) (fun t => t.tmr = .idle) = true ∧ TimerInStep { midRun with st := .sleepArm } ∧
      nextHas (step { midRun with st := .sleepArm }) (fun t => t.tmr = .armed 10) = true ∧
      TimerInStep { start with st := .initRstLow, tmr := .expired } ∧
      nextHas (step { start with st := .initRstLow, tmr := .expired }) (fun t => t.tmr = .armed 20) = true ∧
      { slept with tmr := .armed 0, sched := [.tmr] }.sched = .tmr :: [] ∧ midRun.tmr = .idle ∧ slept.tmr = .expired := by decide

/-- O34: the line is low in INIT_RST_RELEASE, and the step changes it; then a state past it, its last one, and a power cycle. -/
theorem witness_reset_line :
    ResetLineInStep { start with st := .initRstRelease, rstN := false, tmr := .expired } ∧
      nextHas (step { start with st := .initRstRelease, rstN := false, tmr := .expired }) (fun t => t.rstN) = true ∧
      ResetLineInStep midRun ∧ pastRelease slept.st = true ∧ slept.rstN = true ∧
      nextHas (step slept) (fun t => pastRelease t.st && t.rstN) = true ∧
      nextHas (step { slept with sched := [.powerCycle] }) (fun t => !pastRelease t.st) = true := by decide

/-- O35. -/
theorem witness_drive_follows_index :
    rowIsCurrent midRun.st = true ∧ romRead midRun.cfg.phaseTable midRun.idx.toNat = some midRun.row ∧
      midRun.portLo = portLoOf midRun.row ∧ midRun.portHi = portHiOf midRun.row ∧
      nextHas (step midRun) (fun t => t.st = .rdHi) = true := by decide

/-- O36, both clauses. -/
theorem witness_lines_are_outputs :
    midRun.cfg.bus.framesDistinct = true ∧ started midRun.st = true ∧ Memory.read midRun.dev 0x00 = some 0x00 ∧
      Memory.read midRun.dev 0x01 = some 0x00 ∧ nextHas (step { midRun with st := .wrLo }) (fun t => t.st = .wrHi) = true := by
  decide

/-- O37. -/
theorem witness_startup_order : StartupOrder midRun ∧ nextHas (step midRun) (fun t => t.st = .rdHi) = true :=
  ⟨⟨nofun, nofun, nofun, nofun, nofun, fun _ => ⟨⟨0, 0, 0⟩, ⟨0, 0, 0⟩, [], rfl⟩⟩, by decide⟩

/-- O38. -/
theorem witness_frames_in_catalogue :
    FramesInCatalogue midRun ∧ Event.frame 0x40 0x01 0x00 0 0 0 ∈ midRun.trace ∧
      nextHas (step midRun) (fun t => t.st = .rdHi) = true := by
  refine ⟨fun e he => ?_, by decide, by decide⟩
  simp only [midRun, handshakeEvents, dirFrame, List.mem_append, List.mem_cons, List.not_mem_nil, or_false] at he
  rcases he with (rfl | rfl | rfl | rfl | rfl | rfl) | rfl | rfl <;> 
    simp [Event.inCatalogue, midRun, start, State.powerOn, fixCfg, BusConfig.default]

/-- O39: phase 0 is off and at level 0, and the next step is a PWM_SET. -/
theorem witness_off_phases :
    (∀ k : Fin 5, midRun.row[k] = .zero → levelsAreSet midRun.st = true ∨ (midRun.st = .pwmSet ∧ k.val < midRun.ph.toNat) →
      midRun.level[k] = 0) ∧ midRun.row[0] = .zero ∧
      nextHas (step { midRun with st := .pwmSet, ph := 1 }) (fun t => t.level[0] = 0) = true := by decide

/-- O40, O41. -/
theorem witness_port_bits_and_memory :
    midRun.portLo &&& 0x1F#8 = 0 ∧ midRun.portHi &&& 0xFC#8 = 0 ∧ midRun.dev.wf = true ∧
      nextHas (step { midRun with st := .wrLo }) (fun t => t.dev.wf) = true := by decide

/-- O42 to O44: a step that changes the index, and one that adds to the trace. -/
theorem witness_step_next :
    nextHas (step { midRun with st := .advance }) (fun t => t.idx ≠ midRun.idx) = true ∧
      nextHas (step { midRun with st := .heartbeat }) (fun t => t.trace ≠ midRun.trace) = true ∧
      nextHas (step { midRun with sched := [.powerCycle] }) (fun t => t.trace = []) = true := by decide

/-- O45. -/
theorem witness_exec_next : nextHas (exec .sleepArm midRun) (fun t => t.period = midRun.period) = true := by decide

/-- O46: one schedule of each shape. -/
theorem witness_ctl_writes :
    { midRun with sched := [.ctl (.dir 0b11)] }.sched = .ctl (.dir 0b11) :: [] ∧
      { midRun with sched := [.ctl (.duty 0)] }.sched = .ctl (.duty 0) :: [] ∧
      { midRun with sched := [.ctl (.period 0)] }.sched = .ctl (.period 0) :: [] := by decide

/-- P4: two driven phases with a DUTY write between them. -/
def twoDuties : State := { midRun with st := .pwmSet, ph := 3, sched := [.seq, .ctl (.duty 700), .seq] }

/-- O47. -/
theorem witness_duty_between_phases :
    twoDuties.ph.toNat < 4 ∧ twoDuties.st = .pwmSet ∧ twoDuties.fault = none ∧ twoDuties.row[3] ≠ .zero ∧
      twoDuties.row[4] ≠ .zero ∧ 700 < 2 ^ twoDuties.cfg.dutyW ∧ twoDuties.sched = [.seq, .ctl (.duty 700), .seq] ∧
      nextHas (runSteps 3 twoDuties) (fun t => t.level[3] = 500 && t.level[4] = 700) = true := by decide

/-- O48. -/
theorem witness_mismatch :
    nextHas (exec .rdLo { midRun with devRd := some 0xC0 }) (fun t => otherEvents t = otherEvents midRun) = true ∧
      nextHas (exec .rdLo { midRun with devRd := some 0x40 }) (fun t => otherEvents t ≠ otherEvents midRun) = true ∧
      nextHas (exec .rdHi { midRun with devRd := some 0x03 }) (fun _ => true) = true := by decide

/-- O49: the port registers hold the port bytes, and DEV answers them. -/
theorem witness_echo :
    midRun.cfg.bus.framesDistinct = true ∧ Memory.read midRun.dev 0x12 = some midRun.portLo ∧
      Memory.read midRun.dev 0x13 = some midRun.portHi ∧ midRun.st = .rdLo ∧ DevEcho midRun 0x12 ∧
      nextHas (step midRun) (fun t => t.st = .rdHi) = true ∧ DevEcho { midRun with st := .rdHi, devRd := some 0x00 } 0x13 := by
  decide

/-- O51. -/
theorem witness_iteration :
    { midRun with st := .lookup, idx := 19, dir := 0b10 }.idx.toNat < 20 ∧
      { midRun with st := .lookup, idx := 19, dir := 0b10 }.dir = Dir.stopped.code ∧ midRun.tmr = .idle ∧ midRun.fault = none ∧
      midRun.sched = [] := by decide

/-- O54: duty-up and mode/reset held together; the first of the priority order is honoured. -/
theorem witness_priority :
    fixCfg.wf = true ∧ honoured fixCfg #v[false, false, true, false, true] = some .dutyUp ∧
      honoured fixCfg #v[false, false, false, false, false] = none := by decide

/-- O55, O56: each adjusting action is honoured on some snapshot, with no invocation running. -/
theorem witness_adjustments :
    start.cfg.wf = true ∧ start.pending = [] ∧ honoured start.cfg #v[true, false, false, false, true] = some .periodUp ∧
      honoured start.cfg #v[false, true, false, false, false] = some .periodDown ∧
      honoured start.cfg #v[false, false, true, false, false] = some .dutyUp ∧
      honoured start.cfg #v[false, false, false, true, false] = some .dutyDown ∧
      (withTick #v[true, false, false, false, true] start).sched =
        .tick #v[true, false, false, false, true] true .periodDutyDir :: .ctlNext :: [] := by decide

/-- start with a press of mode/reset and the three writes that follow it in the order given. -/
def withPress (order : ResetOrder) (s : State) : State :=
  { s with sched := [.tick #v[false, false, false, false, true] true order, .ctlNext, .ctlNext, .ctlNext] }

/-- O57: each direction; the first of the three writes in two of the orders. -/
theorem witness_mode_reset :
    start.cfg.wf = true ∧ honoured start.cfg #v[false, false, false, false, true] = some .modeReset ∧ start.pending = [] ∧
      start.dir = Dir.forward.code ∧ { start with dir := 0b01 }.dir = Dir.reverse.code ∧
      { start with dir := 0b10 }.dir = Dir.stopped.code ∧
      (withPress .dirDutyPeriod start).sched =
        .tick #v[false, false, false, false, true] true .dirDutyPeriod :: .ctlNext :: .ctlNext :: .ctlNext :: [] ∧
      nextHas (runSteps 2 (withPress .dirDutyPeriod { start with duty := 7, period := 99 }))
        (fun t => t.dir = 0b01 && t.duty = 7 && t.period = 99) = true ∧
      nextHas (runSteps 2 (withPress .periodDutyDir { start with duty := 7, period := 99 }))
        (fun t => t.dir = 0b00 && t.duty = 7 && t.period = 10) = true := by decide

/-- O58, O59. -/
theorem witness_ticks :
    start.pending = [] ∧ { start with pending := [.duty 500] }.pending ≠ [] ∧
      (withTick #v[false, false, false, false, false] start).sched =
        .tick #v[false, false, false, false, false] true .periodDutyDir :: [.ctlNext] := by decide

/-- O60: the inputs at their bounds, with a tick to come and a write pending. -/
theorem witness_inputs_in_contract :
    start.cfg.wf = true ∧ 10 ≤ start.cfg.wrapMax ∧ (CtlWrite.dir 0b10).meets start.cfg = true ∧
      (CtlWrite.duty 5).meets start.cfg = true ∧ (CtlWrite.period 100).meets start.cfg = true ∧
      InputsInContract { start with
        dir := 0b10, duty := 5, period := 100, pending := [.duty 1000]
        sched := [.tick #v[false, true, false, false, false] true .periodDutyDir] } ∧
      nextHas (step { start with sched := [.tick #v[false, true, false, false, false] true .periodDutyDir] })
        (fun t => t.pending = [.period 5]) = true ∧
      ValuesFit start ∧ nextHas (step { start with sched := [.ctl (.duty 65535)] }) (fun t => t.duty = 65535) = true := by decide

end Sys2Proof.Tests
end

section
/-! The proofs of the statements about the state (10_state.md): FAULT, the reset line, the parameters. Each follows from what
one step can do to the block (`step_block_cases`) and what a `SEQ` step does to one field. -/

namespace Sys2Proof.Machine

variable {s t : State} {f : Fault}

/-! ### One step, seen from the block -/

/-- Taking an item off the schedule touches nothing `SameBlock` speaks of. -/
theorem SameBlock.of_pop {rest : List Action} (h : SameBlock { s with sched := rest } t) : SameBlock s t := by
  cases h; constructor <;> assumption

/-- What a step can do to the block: a live block's own step, an environment step that leaves the block alone, or a power
cycle. -/
theorem step_block_cases (h : step s = .next t) :
    (∃ rest, s.fault = none ∧ SeqEffect { s with sched := rest } t) ∨ SameBlock s t ∨
      ∃ rest, s.sched = .powerCycle :: rest ∧ t = State.powerOn s.cfg s.draws rest := by
  rcases step_cases h with ⟨rest, -, hf, he⟩ | ⟨-, -, rfl⟩ | ⟨rest, -, rfl⟩ | ⟨w, rest, -, rfl⟩ |
    ⟨snap, press, order, rest, -, rfl⟩ | ⟨rest, -, rfl⟩ | ⟨v, rest, -, rfl⟩ | ⟨rest, hs, rfl⟩
  · exact .inl ⟨rest, hf, exec_seqEffect (s := { s with sched := rest }) he⟩
  · exact .inr (.inl (sameBlock_tmrStep s))
  · exact .inr (.inl (sameBlock_tmrStep _).of_pop)
  · exact .inr (.inl (sameBlock_ctlWrite w _).of_pop)
  · exact .inr (.inl (sameBlock_refEnvTick snap press order _).of_pop)
  · exact .inr (.inl (sameBlock_ctlNext _).of_pop)
  · exact .inr (.inl (sameBlock_setDevRd v _).of_pop)
  · exact .inr (.inr ⟨rest, hs, rfl⟩)

/-- A scheduled step of a faulted block answers its fault (60_exceptions.md R140). -/
theorem step_seq_faulted {rest : List Action} (hf : s.fault = some f) (hs : s.sched = .seq :: rest) :
    step s = .fault f := by
  unfold step
  rw [hs]
  exact seqStep_faulted hf

/-! ### The parameters (10_state.md R38) -/

theorem SeqEffect.cfg_eq (h : SeqEffect s t) : t.cfg = s.cfg := by
  cases h <;> simp

theorem step_cfg (h : step s = .next t) : t.cfg = s.cfg := by
  rcases step_block_cases h with ⟨rest, -, he⟩ | hb | ⟨rest, -, rfl⟩
  · exact he.cfg_eq
  · exact hb.cfg
  · rfl

/-- Settles O42: a `SEQ` step, an environment step and a power cycle all keep the configuration. -/
theorem phaseTableIsImmutable : Obligations.PhaseTableIsImmutable := fun _ _ h =>
  ⟨congrArg Config.phaseTable (step_cfg h), step_cfg h⟩

/-! ### FAULT (10_state.md R34) -/

/-- The three raises of 60_exceptions.md R141, with the values they record. -/
def Raises (s : State) (f : Fault) : Prop :=
  (s.st = .lookup ∧ 20 ≤ s.idx.toNat ∧ f = .idxRange s.idx) ∨ (s.st = .pwmSet ∧ 5 ≤ s.ph.toNat ∧ f = .phRange s.ph) ∨
    (s.st = .advance ∧ s.dir = 0b11#2 ∧ f = .dirCode s.dir)

/-- A `SEQ` step keeps FAULT, or is one of the three raises. -/
theorem SeqEffect.fault_cases (h : SeqEffect s t) : t.fault = s.fault ∨ ∃ f, t.fault = some f ∧ Raises s f := by
  cases h with
  | idxRange hst hi => exact .inr ⟨_, rfl, .inl ⟨hst, hi, rfl⟩⟩
  | phRange hst hp => exact .inr ⟨_, rfl, .inr (.inl ⟨hst, hp, rfl⟩)⟩
  | dirCode hst hd => exact .inr ⟨_, rfl, .inr (.inr ⟨hst, hd, by rw [hd]⟩)⟩
  | _ => left; simp

/-- FAULT is set by a raise only. -/
theorem step_sets_fault (hs : s.fault = none) (h : step s = .next t) (ht : t.fault = some f) : Raises s f := by
  rcases step_block_cases h with ⟨rest, -, he⟩ | hb | ⟨rest, -, rfl⟩
  · rcases he.fault_cases with hk | ⟨g, hg, hr⟩
    · cases ht.symm.trans (hk.trans hs)
    · cases ht.symm.trans hg
      exact hr
  · cases ht.symm.trans (hb.fault.trans hs)
  · cases ht

/-- Once set, FAULT is kept by every step but a power cycle, which clears it. -/
theorem step_keeps_fault (hs : s.fault = some f) (h : step s = .next t) :
    t.fault = some f ∨ ∃ rest, s.sched = .powerCycle :: rest ∧ t.fault = none := by
  rcases step_block_cases h with ⟨rest, hf, -⟩ | hb | ⟨rest, hp, rfl⟩
  · cases hf.symm.trans hs
  · exact .inl (hb.fault.trans hs)
  · exact .inr ⟨rest, hp, rfl⟩

/-- Settles O29, clause by clause: reset, who sets FAULT, that it stays, that it stops the block. -/
theorem faultIsStickyAndFinal : Obligations.FaultIsStickyAndFinal :=
  ⟨rfl, fun _ _ _ => step_sets_fault, fun _ _ _ => step_keeps_fault, fun _ _ _ => step_seq_faulted⟩

/-! ### The reset line (10_state.md R33) -/

/-- A `SEQ` step drives the reset line low on entering INIT_RST_RELEASE and high on leaving it. -/
theorem SeqEffect.resetLineInStep (h : SeqEffect s t) (hs : ResetLineInStep s) : ResetLineInStep t := by
  unfold ResetLineInStep at hs ⊢
  cases h with
  | hold | idxRange | phRange | dirCode => exact hs
  | initRstHigh | initRstLow | initRstRelease => simp
  | pwmSet hst =>
    rw [hst] at hs
    rw [State.nextPhase_st]
    split <;> simpa using hs
  | initIodirLo hst | initIodirHi hst | lookup hst | compose hst | wrLo hst | wrHi hst | rdLo hst | rdHi hst
  | advance _ hst | heartbeat hst | sleepArm hst | sleepWait hst =>
    rw [hst] at hs
    simpa using hs

theorem SameBlock.resetLineInStep (h : SameBlock s t) (hs : ResetLineInStep s) : ResetLineInStep t := by
  unfold ResetLineInStep
  rw [h.rstN, h.st]
  exact hs

/-- Only the three INIT_RST micro-operations drive the reset line. -/
theorem SeqEffect.rstN_cases (h : SeqEffect s t) :
    t.rstN = s.rstN ∨ s.st = .initRstHigh ∨ s.st = .initRstLow ∨ s.st = .initRstRelease := by
  cases h with
  | initRstHigh hst => exact .inr (.inl hst)
  | initRstLow hst => exact .inr (.inr (.inl hst))
  | initRstRelease hst => exact .inr (.inr (.inr hst))
  | _ => left; simp

theorem step_changes_rstN (h : step s = .next t) (hne : t.rstN ≠ s.rstN) :
    s.st = .initRstHigh ∨ s.st = .initRstLow ∨ s.st = .initRstRelease ∨ ∃ rest, s.sched = .powerCycle :: rest := by
  rcases step_block_cases h with ⟨rest, -, he⟩ | hb | ⟨rest, hp, -⟩
  · rcases he.rstN_cases with hk | h1 | h2 | h3
    · exact absurd hk hne
    · exact .inl h1
    · exact .inr (.inl h2)
    · exact .inr (.inr (.inl h3))
  · exact absurd hb.rstN hne
  · exact .inr (.inr (.inr ⟨rest, hp⟩))

/-- No `SEQ` step goes back to the INIT_RST states. -/
theorem SeqEffect.st_pastRelease (h : SeqEffect s t) (hs : pastRelease s.st = true) : pastRelease t.st = true := by
  cases h with
  | hold | idxRange | phRange | dirCode => exact hs
  | initRstHigh hst | initRstLow hst =>
    rw [hst] at hs
    cases hs
  | pwmSet =>
    rw [State.nextPhase_st]
    split <;> rfl
  | _ => rfl

/-- After INIT_RST_RELEASE a `SEQ` step leaves the reset line alone. -/
theorem SeqEffect.rstN_of_pastRelease (h : SeqEffect s t) (hs : pastRelease s.st = true) : t.rstN = s.rstN := by
  rcases h.rstN_cases with hk | hst | hst | hst
  · exact hk
  all_goals rw [hst] at hs; cases hs

theorem step_pastRelease (hs : pastRelease s.st = true) (h : step s = .next t) :
    (pastRelease t.st = true ∧ (s.rstN = true → t.rstN = true)) ∨ ∃ rest, s.sched = .powerCycle :: rest := by
  rcases step_block_cases h with ⟨rest, -, he⟩ | hb | ⟨rest, hp, -⟩
  · exact .inl ⟨he.st_pastRelease hs, (he.rstN_of_pastRelease hs).trans⟩
  · rw [hb.st, hb.rstN]
    exact .inl ⟨hs, id⟩
  · exact .inr ⟨rest, hp⟩

/-- Settles O34: the invariant by `step_keeps_block`, the other two clauses by what a `SEQ` step does to `RST_N` and `ST`. -/
theorem resetLineStaysInStep : Obligations.ResetLineStaysInStep :=
  ⟨fun _ _ => step_keeps_block (fun _ _ hp _ he => he.resetLineInStep hp) (fun _ _ hp hb => hb.resetLineInStep hp)
      (fun _ _ _ _ => rfl),
    fun _ _ => step_changes_rstN, fun _ _ => step_pastRelease⟩

end Sys2Proof.Machine
end

section
/-! The proof of the statement about the bus (20_memory.md): the frames the block sends. It follows from what a `SEQ` step adds to
the trace. -/

namespace Sys2Proof.Machine

variable {s t : State}

/-! ### The six frames of 30_encoding.md R68 -/

section
variable (b : BusConfig) (data r0 r1 r2 : Byte)

theorem Event.inCatalogue_wrdirLo : (Event.frame b.opWr b.regDirLo b.dirAllOut r0 r1 r2).inCatalogue b := by
  simp [Event.inCatalogue]

theorem Event.inCatalogue_wrdirHi : (Event.frame b.opWr b.regDirHi b.dirAllOut r0 r1 r2).inCatalogue b := by
  simp [Event.inCatalogue]

theorem Event.inCatalogue_wrportLo : (Event.frame b.opWr b.regPortLo data r0 r1 r2).inCatalogue b := by
  simp [Event.inCatalogue]

theorem Event.inCatalogue_wrportHi : (Event.frame b.opWr b.regPortHi data r0 r1 r2).inCatalogue b := by
  simp [Event.inCatalogue]

theorem Event.inCatalogue_rdportLo : (Event.frame b.opRd b.regPortLo 0x00#8 r0 r1 r2).inCatalogue b := by
  simp [Event.inCatalogue]

theorem Event.inCatalogue_rdportHi : (Event.frame b.opRd b.regPortHi 0x00#8 r0 r1 r2).inCatalogue b := by
  simp [Event.inCatalogue]

/-- The report a verification adds, if any, is no frame. -/
theorem verify_report_inCatalogue (reg wrote read : Byte) :
    ∀ e ∈ (if read = wrote then [] else [Event.mismatch reg wrote read]), e.inCatalogue b := by
  split <;> simp [Event.inCatalogue]

end

/-- A catalogue frame has one of the two opcodes and one of the four register addresses (20_memory.md R48). -/
theorem Event.inCatalogue.opcode_and_register {b : BusConfig} {b0 b1 b2 r0 r1 r2 : Byte}
    (h : (Event.frame b0 b1 b2 r0 r1 r2).inCatalogue b) :
    (b0 = b.opWr ∨ b0 = b.opRd) ∧ (b1 = b.regPortLo ∨ b1 = b.regPortHi ∨ b1 = b.regDirLo ∨ b1 = b.regDirHi) := by
  rcases h with ⟨h0, h1, -⟩ | ⟨h0, h1, -⟩ | ⟨h0, h1⟩ | ⟨h0, h1⟩ | ⟨h0, h1, -⟩ | ⟨h0, h1, -⟩ <;> simp [h0, h1]

/-! ### What a step adds to the trace -/

/-- A `SEQ` step only adds to the trace, and each frame it adds is one of the six. -/
theorem SeqEffect.trace_append_inCatalogue (h : SeqEffect s t) :
    ∃ es, t.trace = s.trace ++ es ∧ ∀ e ∈ es, e.inCatalogue s.cfg.bus := by
  cases h with
  | hold | idxRange | phRange | dirCode | lookup | compose | advance | sleepWait => exact ⟨[], by simp⟩
  | initRstHigh | initRstLow | initRstRelease => exact ⟨_, List.append_assoc .., by simp [Event.inCatalogue]⟩
  | pwmSet => exact ⟨_, State.nextPhase_trace _, List.forall_mem_singleton.2 trivial⟩
  | heartbeat | sleepArm => exact ⟨_, rfl, List.forall_mem_singleton.2 trivial⟩
  | initIodirLo => exact ⟨_, rfl, List.forall_mem_singleton.2 (Event.inCatalogue_wrdirLo ..)⟩
  | initIodirHi => exact ⟨_, rfl, List.forall_mem_singleton.2 (Event.inCatalogue_wrdirHi ..)⟩
  | wrLo => exact ⟨_, rfl, List.forall_mem_singleton.2 (Event.inCatalogue_wrportLo ..)⟩
  | wrHi => exact ⟨_, rfl, List.forall_mem_singleton.2 (Event.inCatalogue_wrportHi ..)⟩
  | rdLo =>
    exact ⟨_, List.append_assoc ..,
      List.forall_mem_cons.2 ⟨Event.inCatalogue_rdportLo .., verify_report_inCatalogue _ _ _ _⟩⟩
  | rdHi =>
    exact ⟨_, List.append_assoc ..,
      List.forall_mem_cons.2 ⟨Event.inCatalogue_rdportHi .., verify_report_inCatalogue _ _ _ _⟩⟩

theorem SeqEffect.framesInCatalogue (h : SeqEffect s t) (hs : FramesInCatalogue s) : FramesInCatalogue t := by
  obtain ⟨es, ht, hes⟩ := h.trace_append_inCatalogue
  unfold FramesInCatalogue
  rw [ht, h.cfg_eq]
  exact List.forall_mem_append.2 ⟨hs, hes⟩

theorem SameBlock.framesInCatalogue (h : SameBlock s t) (hs : FramesInCatalogue s) : FramesInCatalogue t := by
  unfold FramesInCatalogue
  rw [h.trace, h.cfg]
  exact hs

/-- Settles O38: the invariant by `step_keeps_block`, a power cycle emptying the trace; the bytes by going through the six
frames. -/
theorem onlyCatalogueFramesAreEmitted : Obligations.OnlyCatalogueFramesAreEmitted :=
  ⟨fun _ _ => step_keeps_block (fun _ _ hp _ he => he.framesInCatalogue hp) (fun _ _ hp hb => hb.framesInCatalogue hp)
      (fun _ _ _ _ => nofun),
    fun _ hs _ _ _ _ _ _ hf => (hs _ hf).opcode_and_register⟩

end Sys2Proof.Machine
end

section
/-! The proof of the statement about the ternary and row codes (30_encoding.md R62, R65). A row code is read one element at a time;
reading a row back is then reading its five elements back. -/

namespace Sys2Proof

/-- The value of a code is the code as a two's complement number (30_encoding.md R62). -/
theorem Tern.code_toInt (t : Tern) : t.code.toInt = t.toInt := by
  cases t <;> rfl

/-- Dropping the low 2-bit code: element k + 1 of `x ++ c` is element k of `x`. -/
theorem extractLsb'_append_code {w : Nat} (x : BitVec w) (c : BitVec 2) (k : Nat) :
    (x ++ c).extractLsb' (2 * (k + 1)) 2 = x.extractLsb' (2 * k) 2 :=
  BitVec.extractLsb'_append_eq_of_le (by omega)

/-- Element k of a row code is phase k's code (30_encoding.md R65): the k codes below it are dropped, the ones above it cut off. -/
theorem rowCode_extractLsb' (r : Row) : ∀ k : Fin 5, (rowCode r).extractLsb' (2 * k.val) 2 = r[k].code
  | 0 => BitVec.extractLsb'_append_eq_right
  | 1 => (extractLsb'_append_code _ _ 0).trans BitVec.extractLsb'_append_eq_right
  | 2 => (extractLsb'_append_code _ _ 1).trans <| (extractLsb'_append_code _ _ 0).trans BitVec.extractLsb'_append_eq_right
  | 3 => (extractLsb'_append_code _ _ 2).trans <| (extractLsb'_append_code _ _ 1).trans <|
      (extractLsb'_append_code _ _ 0).trans BitVec.extractLsb'_append_eq_right
  | 4 => (extractLsb'_append_code _ _ 3).trans <| (extractLsb'_append_code _ _ 2).trans <|
      (extractLsb'_append_code _ _ 1).trans BitVec.extractLsb'_append_eq_left

theorem ofCode_rowCode_extractLsb' (r : Row) (k : Fin 5) :
    Tern.ofCode ((rowCode r).extractLsb' (2 * k.val) 2) = some r[k] := by
  rw [rowCode_extractLsb', Tern.ofCode_code]

/-- The five elements of a row are the row. -/
theorem row_elements (r : Row) : #v[r[0], r[1], r[2], r[3], r[4]] = r :=
  Vector.ext fun k hk => by interval_cases k <;> rfl

/-- A row code is read back: each of its five elements is a code that has a value. -/
theorem rowOfCode_rowCode (r : Row) : rowOfCode (rowCode r) = some r := by
  have hk := ofCode_rowCode_extractLsb' r
  simp only [rowOfCode, Option.bind_eq_bind, Option.bind_eq_some_iff]
  exact ⟨_, hk 0, _, hk 1, _, hk 2, _, hk 3, _, hk 4, congrArg some (row_elements r)⟩

/-- Settles O4: the table of codes by evaluation, the rows element by element. -/
theorem ternaryAndRowCodes : Obligations.TernaryAndRowCodes :=
  ⟨⟨rfl, rfl, rfl, rfl⟩, Tern.code_toInt, rowCode_extractLsb', rowOfCode_rowCode, rfl⟩

end Sys2Proof
end

section
/-! The proofs of the statements about the phase table (40_phase_table.md): the checks of R81, applied before the first step, and the
row LOOKUP latches (R82). -/

namespace Sys2Proof

/-! ### The checks of R81 -/

/-- A table passes exactly when it has 20 rows of 5 elements and no element is the reserved code. -/
theorem TableCodes.check_eq_none_iff (t : TableCodes) :
    t.check = none ↔ t.length = 20 ∧ (∀ r ∈ t, r.length = 5) ∧ ∀ r ∈ t, ∀ c ∈ r, c ≠ 0b10#2 := by
  have hlen : ¬t.any (fun r => r.length ≠ 5) ↔ ∀ r ∈ t, r.length = 5 := by simp
  have hcode : ¬t.any (fun r => r.any (fun c => c = 0b10#2)) ↔ ∀ r ∈ t, ∀ c ∈ r, c ≠ 0b10#2 := by
    simp only [List.any_eq_true, decide_eq_true_eq, not_exists, not_and, ne_eq]
  unfold TableCodes.check
  split_ifs with hcount hshort hreserved
  · exact iff_of_false nofun fun ⟨h, _, _⟩ => hcount h
  · exact iff_of_false nofun fun ⟨_, h, _⟩ => hlen.mpr h hshort
  · exact iff_of_false nofun fun ⟨_, _, h⟩ => hcode.mpr h hreserved
  · exact iff_of_true rfl ⟨not_not.mp hcount, hlen.mp hshort, hcode.mp hreserved⟩

/-- A code that is not the reserved one is the code of the element it is loaded as (30_encoding.md R62, R63). -/
theorem ternAt_code {r : List (BitVec 2)} {k : Nat} (h : r.getD k 0#2 ≠ 0b10#2) : (ternAt r k).code = r.getD k 0#2 := by
  obtain ⟨x, hx⟩ := Option.ne_none_iff_exists'.mp (mt (Tern.ofCode_eq_none _).mp h)
  rw [ternAt, hx, Option.getD_some, Tern.code_of_ofCode _ _ hx]

theorem PhaseTable.ofCodes_of_check_none {t : TableCodes} (h : t.check = none) :
    PhaseTable.ofCodes t = .ok (Vector.ofFn fun i => Vector.ofFn fun k => ternAt (t.getD i.val []) k.val) := by
  rw [PhaseTable.ofCodes, h]

theorem PhaseTable.ofCodes_of_check_some {t : TableCodes} {e : ConfigError} (h : t.check = some e) :
    PhaseTable.ofCodes t = .error e := by
  rw [PhaseTable.ofCodes, h]

/-- A table that passes is loaded with exactly its codes. -/
theorem PhaseTable.ofCodes_loads {t : TableCodes} (h : t.check = none) :
    ∃ p : PhaseTable, PhaseTable.ofCodes t = .ok p ∧
      ∀ (i : Fin 20) (k : Fin 5), p[i][k].code = (t.getD i.val []).getD k.val 0#2 := by
  obtain ⟨hrows, hlen, hcode⟩ := t.check_eq_none_iff.mp h
  refine ⟨_, PhaseTable.ofCodes_of_check_none h, fun i k => ?_⟩
  have hi : i.val < t.length := by rw [hrows]; exact i.isLt
  have hk : k.val < t[i.val].length := by rw [hlen _ (List.getElem_mem hi)]; exact k.isLt
  have hc : (t.getD i.val []).getD k.val 0#2 ≠ 0b10#2 := by
    rw [List.getD_eq_getElem _ _ hi, List.getD_eq_getElem _ _ hk]
    exact hcode _ (List.getElem_mem hi) _ (List.getElem_mem hk)
  simpa using ternAt_code hc

namespace Machine

/-! ### The check before the first step -/

theorem boot_refused {t : TableCodes} {e : ConfigError} (h : PhaseTable.ofCodes t = .error e) (c : Config) :
    boot t c = .refused (.illFormedConfig e) := by
  rw [boot, h]

theorem boot_powersOn {t : TableCodes} {p : PhaseTable} (h : PhaseTable.ofCodes t = .ok p) {c : Config} (hc : c.wf = true) :
    boot t c = .next (State.powerOn { c with phaseTable := p } 0 []) := by
  rw [boot, h]
  exact if_pos hc

/-- Settles O5: a passing table is loaded and powers on; a failing one has an error of the check, and `boot` refuses with it before it
looks at the other parameters. -/
theorem phaseTableIsCheckedBeforeTheFirstStep : Obligations.PhaseTableIsCheckedBeforeTheFirstStep := by
  intro t
  rw [← t.check_eq_none_iff]
  constructor
  · intro hpass
    obtain ⟨p, hp, hcodes⟩ := PhaseTable.ofCodes_loads hpass
    exact ⟨p, hp, hcodes, fun c hc => ⟨0, [], boot_powersOn hp hc⟩⟩
  · intro hfail
    obtain ⟨e, he⟩ := Option.ne_none_iff_exists'.mp hfail
    have herr := PhaseTable.ofCodes_of_check_some he
    exact ⟨e, herr, boot_refused herr⟩

/-! ### LOOKUP -/

variable {s : State}

/-- Latching a row and moving on leave inputs, ports, lines, timer, expander and levels as they were. -/
theorem latchRow_goto_frame (r : Row) (st : FsmState) :
    KeepsEnvironment s ((s.latchRow r).goto st) ∧ KeepsPorts s ((s.latchRow r).goto st) ∧
      KeepsLines s ((s.latchRow r).goto st) ∧ KeepsTimer s ((s.latchRow r).goto st) ∧
      KeepsExpander s ((s.latchRow r).goto st) ∧ KeepsLevels s ((s.latchRow r).goto st) :=
  ⟨⟨rfl, rfl, rfl, rfl, rfl, rfl, rfl⟩, ⟨rfl, rfl⟩, ⟨rfl, rfl⟩, ⟨rfl, rfl⟩,
    ⟨fun _ => ⟨rfl, devByte_congr rfl rfl _⟩, rfl, rfl⟩, fun _ => rfl⟩

/-- Settles O15: `exec_lookup` below 20, with the frame of latching a row; `exec_lookup_fault` from 20 on. -/
theorem lookupLatchesTheRowOfTheIndex : Obligations.LookupLatchesTheRowOfTheIndex := fun _ =>
  ⟨fun h => ⟨_, exec_lookup h, rfl, rfl, rfl, rfl, rfl, rfl, latchRow_goto_frame _ _⟩, exec_lookup_fault⟩

end Machine

end Sys2Proof
end

section
/-! The proofs of the statements about the PWM mapper (41_pwm_mapper.md): the level a phase gets (R91), the step of PWM_SET (R90), and
the output a phase's level goes to (R93). -/

namespace Sys2Proof.Machine

variable {s t : State}

/-! ### The level and the port bit of a phase (41_pwm_mapper.md R91, R95) -/

@[simp] theorem levelFor_zero (d : Nat) : levelFor .zero d = 0 := if_pos rfl

theorem levelFor_of_ne_zero {x : Tern} (h : x ≠ .zero) (d : Nat) : levelFor x d = d := if_neg h

@[simp] theorem on_pos : on .pos = 1#1 := if_pos rfl

theorem on_of_ne_pos {x : Tern} (h : x ≠ .pos) : on x = 0#1 := if_neg h

/-- Settles O17: both driven phases get the duty, whatever it is; only +1 has its port bit set. -/
theorem levelMapper : Obligations.LevelMapper := fun d =>
  have hpos : levelFor .pos d = d := levelFor_of_ne_zero (by decide) d
  have hneg : levelFor .neg d = d := levelFor_of_ne_zero (by decide) d
  ⟨levelFor_zero d, hpos, hneg.trans hpos.symm, on_pos, on_of_ne_pos (by decide), on_of_ne_pos (by decide)⟩

/-! ### The step of PWM_SET (41_pwm_mapper.md R90) -/

/-- After phase 4 `PH` stays and COMPOSE is next. -/
theorem State.nextPhase_of_last (h : s.ph.toNat = 4) : s.nextPhase.ph = s.ph ∧ s.nextPhase.st = .compose := by
  have h4 : s.ph = 4 := BitVec.eq_of_toNat_eq h
  rw [State.nextPhase_ph, State.nextPhase_st, if_pos h4, if_pos h4]
  exact ⟨h4.symm, rfl⟩

/-- After an earlier phase PWM_SET runs again, one phase on. -/
theorem State.nextPhase_of_lt (h : s.ph.toNat < 4) :
    s.nextPhase.ph.toNat = s.ph.toNat + 1 ∧ s.nextPhase.st = .pwmSet := by
  have h4 : s.ph ≠ 4 := fun h4 => by simp [h4] at h
  rw [State.nextPhase_ph, State.nextPhase_st, if_neg h4, if_neg h4]
  exact ⟨BitVec.toNat_add_of_lt (by simp; omega), rfl⟩

/-- Moving to the next phase leaves row, index, fault, inputs, ports, lines, timer and expander as they were. -/
theorem State.nextPhase_frame (s : State) :
    s.nextPhase.row = s.row ∧ s.nextPhase.idx = s.idx ∧ s.nextPhase.fault = s.fault ∧ KeepsEnvironment s s.nextPhase ∧
      KeepsPorts s s.nextPhase ∧ KeepsLines s s.nextPhase ∧ KeepsTimer s s.nextPhase ∧ KeepsExpander s s.nextPhase := by
  have hdev (a : Nat) : devByte s.nextPhase a = devByte s a :=
    devByte_congr (State.nextPhase_dev s) (State.nextPhase_devDraw s) a
  simp [KeepsEnvironment, KeepsPorts, KeepsLines, KeepsTimer, KeepsExpander, hdev]

/-- Settles O16: `exec_pwmSet` below 5, its write and its move read field by field; `exec_pwmSet_fault` from 5 on. -/
theorem pwmSetWritesOneLevel : Obligations.PwmSetWritesOneLevel := by
  intro s
  refine ⟨fun h => ⟨_, exec_pwmSet h, ?_, ?_, ?_, ?_, ?_, ?_⟩, fun h => exec_pwmSet_fault (by omega)⟩
  · simp [levelFor]
  · intro k hk
    simp [Vector.getElem_set_ne, hk.symm]
  · simp [levelFor]
  · exact State.nextPhase_of_last (s := s.pwmWrite _ _)
  · exact State.nextPhase_of_lt (s := s.pwmWrite _ _)
  · exact State.nextPhase_frame (s.pwmWrite _ _)

/-! ### The output of a phase (41_pwm_mapper.md R93) -/

theorem levelAt_congr (hc : t.cfg = s.cfg) (hl : t.level = s.level) (ch : PwmChan) : levelAt t ch = levelAt s ch := by
  simp [levelAt, hc, hl]

@[simp] theorem levelAt_nextPhase (s : State) (ch : PwmChan) : levelAt s.nextPhase ch = levelAt s ch :=
  levelAt_congr (State.nextPhase_cfg s) (State.nextPhase_level s) ch

/-- The phase that `levelAt` finds for an output drives that output. -/
theorem pwmCh_of_find? {c : Config} {ch : PwmChan} {j : Fin 5}
    (h : ((List.finRange 5).find? fun i => c.pwmCh[i] = ch) = some j) : c.pwmCh[j] = ch := by
  simpa using List.find?_some h

/-- With distinct outputs an output has one phase only. -/
theorem pwmCh_injective {c : Config} (h : c.pwmCh.toList.Nodup) {j k : Fin 5} (hjk : c.pwmCh[j] = c.pwmCh[k]) : j = k :=
  Fin.ext <| (h.getElem_inj_iff (hi := by simp) (hj := by simp)).mp (by simpa using hjk)

/-- With distinct outputs, `PWM_CH[k]` holds the level of phase k: the search by output finds phase k and no other. -/
theorem levelAt_pwmCh (h : s.cfg.pwmCh.toList.Nodup) (k : Fin 5) : levelAt s s.cfg.pwmCh[k] = some s.level[k] := by
  have hfound : ((List.finRange 5).find? fun j => s.cfg.pwmCh[j] = s.cfg.pwmCh[k]).isSome :=
    List.find?_isSome.mpr ⟨k, List.mem_finRange k, decide_eq_true rfl⟩
  obtain ⟨j, hj⟩ := Option.isSome_iff_exists.mp hfound
  have hjk : j = k := pwmCh_injective h (pwmCh_of_find? hj)
  rw [levelAt, hj, Option.map_some, hjk]

/-- A write to phase k is seen at `PWM_CH[k]`. -/
theorem levelAt_pwmWrite_same (h : s.cfg.pwmCh.toList.Nodup) (k : Fin 5) (l : Nat) :
    levelAt (s.pwmWrite k l) s.cfg.pwmCh[k] = some l :=
  (levelAt_pwmCh (s := s.pwmWrite k l) h k).trans (by simp)

/-- A write to phase k does not reach an output that is not `PWM_CH[k]`. -/
theorem levelAt_pwmWrite_other {k : Fin 5} {ch : PwmChan} (h : ch ≠ s.cfg.pwmCh[k]) (l : Nat) :
    levelAt (s.pwmWrite k l) ch = levelAt s ch := by
  unfold levelAt
  refine Option.map_congr fun j hj => ?_
  have hch : s.cfg.pwmCh[j] = ch := pwmCh_of_find? hj
  have hkj : k.val ≠ j.val := by
    intro hkj
    rw [Fin.ext hkj, hch] at h
    exact h rfl
  simp [Vector.getElem_set_ne, hkj]

/-- Settles O18: every output is found under its phase; the step of PWM_SET writes one phase, seen at that phase's output alone. -/
theorem levelGoesToThePhasesChannel : Obligations.LevelGoesToThePhasesChannel := by
  intro s hnd
  refine ⟨levelAt_pwmCh hnd, fun h t ht => ?_⟩
  rw [exec_pwmSet h] at ht
  cases ht
  constructor
  · exact (levelAt_nextPhase _ _).trans (levelAt_pwmWrite_same hnd ⟨s.ph.toNat, h⟩ _)
  · exact fun ch hch => (levelAt_nextPhase _ ch).trans (levelAt_pwmWrite_other (k := ⟨s.ph.toNat, h⟩) hch _)

end Sys2Proof.Machine
end

section
/-! The proofs of the statements about the port codec (42_port_codec.md): the pins COMPOSE sets (R101, R107, R108), the two port
writes (R102, R103), the two verification reads (R104, R105), and what a mismatch changes (R106). -/

namespace Sys2Proof.Machine

variable {s t : State}

/-! ### The pins of a row (42_port_codec.md R101, R108) -/

theorem getLsbD_on_zero (x : Tern) : (on x).getLsbD 0 = decide (x = .pos) := by
  cases x <;> rfl

/-- Which piece of the low port byte bit i is taken from. -/
theorem getLsbD_portLoOf (r : Row) (i : Nat) :
    (portLoOf r).getLsbD i =
      if i < 5 then false else if i - 5 < 1 then (on r[0]).getLsbD (i - 5)
      else if i - 5 - 1 < 1 then (on r[1]).getLsbD (i - 5 - 1) else (on r[2]).getLsbD (i - 5 - 1 - 1) := by
  change (on r[2] ++ on r[1] ++ on r[0] ++ 0b00000#5).getLsbD i = _
  simp only [BitVec.getLsbD_append, BitVec.getLsbD_zero]

/-- Which piece of the high port byte bit i is taken from. -/
theorem getLsbD_portHiOf (r : Row) (i : Nat) :
    (portHiOf r).getLsbD i =
      if i < 1 then (on r[3]).getLsbD i else if i - 1 < 1 then (on r[4]).getLsbD (i - 1) else false := by
  change (0b000000#6 ++ on r[4] ++ on r[3]).getLsbD i = _
  simp only [BitVec.getLsbD_append, BitVec.getLsbD_zero]

/-- No phase drives bits 4 to 0 of the low port (R101, its corner cases). -/
theorem getLsbD_portLoOf_of_lt (r : Row) {i : Nat} (h : i < 5) : (portLoOf r).getLsbD i = false := by
  rw [getLsbD_portLoOf, if_pos h]

/-- No phase drives bits 7 to 2 of the high port (R101, its corner cases). -/
theorem getLsbD_portHiOf_of_le (r : Row) {i : Nat} (h : 2 ≤ i) : (portHiOf r).getLsbD i = false := by
  rw [getLsbD_portHiOf, if_neg (by omega), if_neg (by omega)]

/-- The pin of phase k is set exactly for +1 (00_scope.md R9): bit 5 + k of the low port for k ≤ 2, bit k - 3 of the high one. -/
theorem pinBit_pinOf (r : Row) : ∀ k : Fin 5, pinBit (portLoOf r) (portHiOf r) (pinOf k) = decide (r[k] = .pos)
  | 0 | 1 | 2 => (getLsbD_portLoOf r _).trans (getLsbD_on_zero _)
  | 3 | 4 => (getLsbD_portHiOf r _).trans (getLsbD_on_zero _)

/-- Pins 0 to 4 and 10 to 15 belong to no phase and are clear. -/
theorem pinBit_of_no_phase (r : Row) {p : Nat} (hp : p < 16) (h : ∀ k : Fin 5, pinOf k ≠ p) :
    pinBit (portLoOf r) (portHiOf r) p = false := by
  have hout : p < 5 ∨ 10 ≤ p := by
    by_contra hin
    exact h ⟨p - 5, by omega⟩ (by simp only [pinOf]; omega)
  unfold pinBit
  rcases hout with hlow | hhigh
  · rw [if_pos (by omega)]
    exact getLsbD_portLoOf_of_lt r (by omega)
  · rw [if_neg (by omega)]
    exact getLsbD_portHiOf_of_le r (by omega)

/-- Setting the port bytes and moving on leave inputs, row, lines, timer, expander and levels as they were. -/
theorem setPorts_goto_frame (lo hi : Byte) (st : FsmState) :
    KeepsEnvironment s ((s.setPorts lo hi).goto st) ∧ KeepsRow s ((s.setPorts lo hi).goto st) ∧
      KeepsLines s ((s.setPorts lo hi).goto st) ∧ KeepsTimer s ((s.setPorts lo hi).goto st) ∧
      KeepsExpander s ((s.setPorts lo hi).goto st) ∧ KeepsLevels s ((s.setPorts lo hi).goto st) :=
  ⟨⟨rfl, rfl, rfl, rfl, rfl, rfl, rfl⟩, ⟨rfl, rfl⟩, ⟨rfl, rfl⟩, ⟨rfl, rfl⟩,
    ⟨fun _ => ⟨rfl, devByte_congr rfl rfl _⟩, rfl, rfl⟩, fun _ => rfl⟩

/-- COMPOSE leaves the two port bytes of the row, whatever the rest of the state. -/
theorem exec_compose_ports (h : exec .compose s = .next t) : t.portLo = portLoOf s.row ∧ t.portHi = portHiOf s.row := by
  rw [exec_compose] at h
  cases h
  exact ⟨rfl, rfl⟩

/-- Settles O19: each pin is read off the two port bytes of the row, which are all that COMPOSE takes from the state. -/
theorem composeSetsAPinForPlusOneOnly : Obligations.ComposeSetsAPinForPlusOneOnly := by
  constructor
  · exact fun s => ⟨_, exec_compose, pinBit_pinOf s.row, fun _ => pinBit_of_no_phase s.row, rfl, rfl, rfl, rfl,
      setPorts_goto_frame _ _ _⟩
  · intro s s' t t' hrow ht ht'
    obtain ⟨hlo, hhi⟩ := exec_compose_ports ht
    obtain ⟨hlo', hhi'⟩ := exec_compose_ports ht'
    rw [hlo, hhi, hlo', hhi', hrow]
    exact ⟨rfl, rfl⟩

/-! ### What a bus transaction does (20_memory.md R54, 30_encoding.md R67) -/

/-- One write frame sets its register and no other. -/
theorem frameWritten_busWrite (s : State) (reg data : Byte) : FrameWritten reg data s (s.busWrite reg data) :=
  ⟨Memory.read_write_same _ _ _, devByte_busWrite_same _ _ _,
    fun _ ha => ⟨Memory.read_write_other _ _ ha, devByte_busWrite_other _ _ _ ha⟩, rfl, _, _, _, rfl⟩

theorem FrameWritten.goto {reg data : Byte} (h : FrameWritten reg data s t) (st : FsmState) :
    FrameWritten reg data s (t.goto st) := h

/-- A byte set by `dev rd = v` is the last byte received (30_encoding.md R76). -/
theorem readReply_r2_of_devRd {v : Byte} (h : s.devRd = some v) : (readReply s).r2 = v := by
  simp [readReply, h]

/-- One read frame changes no expander register. -/
theorem frameRead_busRead (s : State) (reg : Byte) : FrameRead reg (readReply s).r2 [] s (s.busRead reg) :=
  ⟨fun _ => ⟨rfl, devByte_congr rfl rfl _⟩, fun _ => readReply_r2_of_devRd, rfl, _, _, rfl⟩

theorem FrameRead.goto {reg r2 : Byte} {es : List Event} (h : FrameRead reg r2 es s t) (st : FsmState) :
    FrameRead reg r2 es s (t.goto st) := h

/-- The comparison after a read frame adds its report behind the frame, and nothing else. -/
theorem FrameRead.verify {reg r2 : Byte} (h : FrameRead reg r2 [] s t) (wrote : Byte) :
    FrameRead reg r2 (if r2 = wrote then [] else [.mismatch reg wrote r2]) s (t.verify reg wrote r2) := by
  obtain ⟨hdev, hv, hrd, r0, r1, htrace⟩ := h
  exact ⟨hdev, hv, hrd, r0, r1, by simp [htrace]⟩

theorem keepsRegisters_busWrite (s : State) (reg data : Byte) : KeepsRegisters s (s.busWrite reg data) :=
  ⟨⟨rfl, rfl, rfl, rfl, rfl, rfl, rfl⟩, ⟨rfl, rfl⟩, ⟨rfl, rfl⟩, ⟨rfl, rfl⟩, fun _ => rfl, rfl, rfl, rfl⟩

theorem keepsRegisters_busRead (s : State) (reg : Byte) : KeepsRegisters s (s.busRead reg) :=
  ⟨⟨rfl, rfl, rfl, rfl, rfl, rfl, rfl⟩, ⟨rfl, rfl⟩, ⟨rfl, rfl⟩, ⟨rfl, rfl⟩, fun _ => rfl, rfl, rfl, rfl⟩

theorem KeepsRegisters.goto (h : KeepsRegisters s t) (st : FsmState) : KeepsRegisters s (t.goto st) := h

theorem KeepsRegisters.verify (h : KeepsRegisters s t) (reg wrote read : Byte) :
    KeepsRegisters s (t.verify reg wrote read) := h

/-! ### The port writes and the verification reads (42_port_codec.md R102 to R105) -/

/-- Settles O20: each step is one write frame and the move to the next state. -/
theorem portWriteFrames : Obligations.PortWriteFrames := fun s =>
  ⟨⟨_, exec_wrLo, (frameWritten_busWrite s _ _).goto _, rfl, rfl, (keepsRegisters_busWrite s _ _).goto _⟩,
    _, exec_wrHi, (frameWritten_busWrite s _ _).goto _, rfl, rfl, (keepsRegisters_busWrite s _ _).goto _⟩

/-- Settles O21: each step is one read frame, the comparison, and the move to the next state. -/
theorem verificationReads : Obligations.VerificationReads := fun s =>
  ⟨⟨_, _, exec_rdLo, ((frameRead_busRead s _).verify _).goto _, rfl, rfl,
      ((keepsRegisters_busRead s _).verify _ _ _).goto _⟩,
    _, _, exec_rdHi, ((frameRead_busRead s _).verify _).goto _, rfl, rfl,
      ((keepsRegisters_busRead s _).verify _ _ _).goto _⟩

/-! ### A mismatch (42_port_codec.md R106) -/

/-- The trace aside, a verification read leaves a state that no received byte enters: the answer set by `dev rd` is used up, one
draw is made, and the next state is fixed. -/
theorem verifyRead_traceless {reg wrote read : Byte} {st : FsmState}
    (h : Host.Outcome.next (((s.busRead reg).verify reg wrote read).goto st) =
      (.next t : Host.Outcome State Fault Refusal)) :
    { t with trace := [] } = { s with st := st, devRd := none, draws := s.draws + 1, trace := [] } := by
  cases h
  rfl

/-- Settles O48: two answers to one read lead, the trace aside, to the same state. -/
theorem mismatchChangesNoState : Obligations.MismatchChangesNoState := fun _ _ _ _ _ =>
  ⟨fun ht hu => (verifyRead_traceless (exec_rdLo.symm.trans ht)).trans (verifyRead_traceless (exec_rdLo.symm.trans hu)).symm,
    fun ht hu => (verifyRead_traceless (exec_rdHi.symm.trans ht)).trans (verifyRead_traceless (exec_rdHi.symm.trans hu)).symm⟩

end Sys2Proof.Machine
end

section
/-! The proofs of the statements about the sequencer (43_sequencer.md): the next-state table and the hold (R121), the step index
counter (R122, R126), the heartbeat (R123) and the pacing (R124, R125). -/

namespace Sys2Proof

/-- Different directions have different codes. -/
theorem Dir.code_injective : Function.Injective Dir.code := fun d d' h =>
  Option.some.inj ((Dir.ofCode_code d).symm.trans ((congrArg Dir.ofCode h).trans (Dir.ofCode_code d')))

namespace Machine

variable {s t : State}

/-! ### The next-state table (43_sequencer.md R121) -/

/-- The third column of R121. -/
def nextInTable (s : State) : FsmState :=
  match s.st with
  | .initRstHigh => .initRstLow
  | .initRstLow => .initRstRelease
  | .initRstRelease => .initIodirLo
  | .initIodirLo => .initIodirHi
  | .initIodirHi => .lookup
  | .lookup => .pwmSet
  | .pwmSet => if s.ph.toNat < 4 then .pwmSet else .compose
  | .compose => .wrLo
  | .wrLo => .wrHi
  | .wrHi => .rdLo
  | .rdLo => .rdHi
  | .rdHi => .advance
  | .advance => .heartbeat
  | .heartbeat => .sleepArm
  | .sleepArm => .sleepWait
  | .sleepWait => .lookup

/-- PWM_SET runs again after every phase but the last. -/
theorem State.nextPhase_st_of_lt (h : s.ph.toNat < 5) :
    s.nextPhase.st = if s.ph.toNat < 4 then .pwmSet else .compose := by
  split
  · next hlt => exact (State.nextPhase_of_lt hlt).2
  · next hlast => exact (State.nextPhase_of_last (by omega)).2

/-- ADVANCE completes from every direction but the reserved one. -/
theorem exec_advance_of_ne_reserved (h : s.dir ≠ 0b11#2) :
    ∃ d : Dir, s.dir = d.code ∧ exec .advance s = .next ((s.moveIdx d).goto .heartbeat) :=
  (exec_advance_cases s).resolve_right fun hr => h hr.1

/-- An enabled step that raises nothing follows the table: the premises are the enabling condition and the checks of the three
raises (60_exceptions.md R141). -/
theorem exec_follows_table (hf : s.fault = none) :
    (waitsForTimer s.st = true → s.tmr = .expired) → (s.st = .lookup → s.idx.toNat < 20) →
      (s.st = .pwmSet → s.ph.toNat < 5) → (s.st = .advance → s.dir ≠ 0b11#2) →
      ∃ t, exec s.st.instr s = .next t ∧ t.fault = none ∧ t.st = nextInTable s := by
  unfold nextInTable
  cases s.st with
  | initRstHigh => exact fun _ _ _ _ => ⟨_, exec_initRstHigh, hf, rfl⟩
  | initRstLow => exact fun hw _ _ _ => ⟨_, exec_initRstLow (hw rfl), hf, rfl⟩
  | initRstRelease => exact fun hw _ _ _ => ⟨_, exec_initRstRelease (hw rfl), hf, rfl⟩
  | initIodirLo => exact fun hw _ _ _ => ⟨_, exec_initIodirLo (hw rfl), hf, rfl⟩
  | initIodirHi => exact fun _ _ _ _ => ⟨_, exec_initIodirHi, hf, rfl⟩
  | lookup => exact fun _ hi _ _ => ⟨_, exec_lookup (hi rfl), hf, rfl⟩
  | pwmSet =>
    exact fun _ _ hp _ => ⟨_, exec_pwmSet (hp rfl), (State.nextPhase_fault _).trans hf,
      State.nextPhase_st_of_lt (s := s.pwmWrite _ _) (hp rfl)⟩
  | compose => exact fun _ _ _ _ => ⟨_, exec_compose, hf, rfl⟩
  | wrLo => exact fun _ _ _ _ => ⟨_, exec_wrLo, hf, rfl⟩
  | wrHi => exact fun _ _ _ _ => ⟨_, exec_wrHi, hf, rfl⟩
  | rdLo => exact fun _ _ _ _ => ⟨_, exec_rdLo, hf, rfl⟩
  | rdHi => exact fun _ _ _ _ => ⟨_, exec_rdHi, hf, rfl⟩
  | advance =>
    intro _ _ _ hd
    obtain ⟨d, -, he⟩ := exec_advance_of_ne_reserved (hd rfl)
    exact ⟨_, he, hf, rfl⟩
  | heartbeat => exact fun _ _ _ _ => ⟨_, exec_heartbeat, hf, rfl⟩
  | sleepArm => exact fun _ _ _ _ => ⟨_, exec_sleepArm, hf, rfl⟩
  | sleepWait => exact fun hw _ _ _ => ⟨_, exec_sleepWait (hw rfl), hf, rfl⟩

/-! ### The hold (43_sequencer.md R121) -/

/-- While the block holds, its `SEQ` step changes nothing. -/
theorem SeqEffect.eq_of_hold (h : SeqEffect s t) (hw : waitsForTimer s.st = true) (ht : s.tmr ≠ .expired) : t = s := by
  cases h with
  | hold => rfl
  | initRstLow _ he | initRstRelease _ he | initIodirLo _ he | sleepWait _ he => exact absurd he ht
  | idxRange hst | phRange hst | dirCode hst | initRstHigh hst | initIodirHi hst | lookup hst | pwmSet hst | compose hst
  | wrLo hst | wrHi hst | rdLo hst | rdHi hst | advance _ hst | heartbeat hst | sleepArm hst =>
    rw [hst] at hw
    cases hw

/-- While the block holds, only a power cycle moves `ST`. -/
theorem step_st_of_hold (hw : waitsForTimer s.st = true) (ht : s.tmr ≠ .expired) (h : step s = .next t) :
    t.st = s.st ∨ ∃ rest, s.sched = .powerCycle :: rest := by
  rcases step_block_cases h with ⟨rest, -, he⟩ | hb | ⟨rest, hp, -⟩
  · rw [he.eq_of_hold hw ht]
    exact .inl rfl
  · exact .inl hb.st
  · exact .inr ⟨rest, hp⟩

@[simp] theorem ctlWrite_tmr (w : CtlWrite) (s : State) : (ctlWrite w s).tmr = s.tmr := by
  cases w <;> rfl

@[simp] theorem ctlNext_tmr (s : State) : (ctlNext s).tmr = s.tmr := by
  unfold ctlNext
  split
  · rfl
  · exact ctlWrite_tmr _ _

@[simp] theorem refEnvTick_tmr (snap : Vector Bool 5) (press : Bool) (order : ResetOrder) (s : State) :
    (refEnvTick snap press order s).tmr = s.tmr := by
  obtain ⟨ws, n, h, -⟩ := refEnvTick_cases snap press order s
  rw [h]

/-- While the block holds, only the timer's own step makes the timer Expired. -/
theorem step_expires_of_hold (hw : waitsForTimer s.st = true) (ht : s.tmr ≠ .expired) (h : step s = .next t)
    (hx : t.tmr = .expired) : s.sched = [] ∨ ∃ rest, s.sched = .tmr :: rest := by
  rcases step_cases h with ⟨rest, -, -, he⟩ | ⟨hs, -, -⟩ | ⟨rest, hs, -⟩ | ⟨w, rest, -, rfl⟩ |
    ⟨snap, press, order, rest, -, rfl⟩ | ⟨rest, -, rfl⟩ | ⟨v, rest, -, rfl⟩ | ⟨rest, -, rfl⟩
  · rw [exec_hold (s := { s with sched := rest }) hw ht] at he
    cases he
    exact absurd hx ht
  · exact .inl hs
  · exact .inr ⟨rest, hs⟩
  · exact absurd ((ctlWrite_tmr _ _).symm.trans hx) ht
  · exact absurd ((refEnvTick_tmr _ _ _ _).symm.trans hx) ht
  · exact absurd ((ctlNext_tmr _).symm.trans hx) ht
  · exact absurd hx ht
  · cases hx

/-- While the block holds on a scheduled step: `ST` stays but for a power cycle, and a `TMR` step alone expires the timer. -/
theorem step_of_hold {a : Action} {rest : List Action} (hs : s.sched = a :: rest) (hw : waitsForTimer s.st = true)
    (ht : s.tmr ≠ .expired) (h : step s = .next t) :
    (t.st = s.st ∨ a = .powerCycle) ∧ (t.tmr = .expired → a = .tmr ∧ t.st = s.st) := by
  have hst : t.st = s.st ∨ a = .powerCycle := by
    rcases step_st_of_hold hw ht h with hst | ⟨_, hp⟩
    · exact .inl hst
    · exact .inr (List.cons.inj (hs.symm.trans hp)).1
  refine ⟨hst, fun hx => ?_⟩
  rcases step_expires_of_hold hw ht h hx with hnil | ⟨_, htmr⟩
  · cases hs.symm.trans hnil
  · cases hs.symm.trans htmr
    exact ⟨rfl, hst.resolve_right nofun⟩

/-- Settles O10: an enabled step by the table, a hold by `exec_hold` and `step_of_hold`, a faulted block by `step_seq_faulted`. -/
theorem nextStateTable : Obligations.NextStateTable := fun _ =>
  ⟨exec_follows_table, exec_hold, fun _ _ hs hw ht _ => step_of_hold hs hw ht, fun _ _ => step_seq_faulted⟩

/-! ### What the sequencer's own steps leave unchanged -/

/-- ADVANCE, HEARTBEAT, SLEEP_ARM and SLEEP_WAIT write `ST`, `IDX`, `HB`, `SLEEP_MS`, `TMR` and the trace; inputs, row, ports,
expander and levels stay, whatever goes there. -/
theorem sequencer_frame (s : State) (st : FsmState) (idx : BitVec 5) (hb : Bool) (sleepMs : Nat) (tmr : Timer)
    (trace : List Event) {t : State}
    (h : t = { s with st := st, idx := idx, hb := hb, sleepMs := sleepMs, tmr := tmr, trace := trace }) :
    KeepsEnvironment s t ∧ KeepsRow s t ∧ KeepsPorts s t ∧ KeepsExpander s t ∧ KeepsLevels s t := by
  subst h
  exact ⟨⟨rfl, rfl, rfl, rfl, rfl, rfl, rfl⟩, ⟨rfl, rfl⟩, ⟨rfl, rfl⟩,
    ⟨fun _ => ⟨rfl, devByte_congr rfl rfl _⟩, rfl, rfl⟩, fun _ => rfl⟩

/-! ### ADVANCE (43_sequencer.md R122) -/

/-- Reverse in the rule's own form, on unbounded integers. -/
theorem nextIndex_reverse_int (i : BitVec 5) :
    ((nextIndex .reverse i).toNat : Int) = ((i.toNat : Int) - 1 + 20) % 20 := by
  rw [nextIndex_reverse]
  omega

/-- Settles O23: ADVANCE is `moveIdx` by the direction whose code `DIR` holds; the reserved code raises. -/
theorem advanceMovesTheIndex : Obligations.AdvanceMovesTheIndex := by
  intro s
  refine ⟨fun hne => ?_, exec_advance_fault⟩
  obtain ⟨d, hd, he⟩ := exec_advance_of_ne_reserved hne
  have hdir {d' : Dir} (h : s.dir = d'.code) : d = d' := Dir.code_injective (hd.symm.trans h)
  obtain ⟨henv, hrow, hports, hdev, hlevels⟩ :=
    sequencer_frame s .heartbeat (nextIndex d s.idx) s.hb s.sleepMs s.tmr s.trace rfl
  refine ⟨_, he, fun h => ?_, fun h => ?_, fun h => ?_, rfl, rfl, rfl, henv, hrow, hports, ⟨rfl, rfl⟩, ⟨rfl, rfl⟩, hdev,
    hlevels⟩
  · cases hdir (d' := .forward) h
    exact nextIndex_forward s.idx
  · cases hdir (d' := .reverse) h
    exact nextIndex_reverse_int s.idx
  · cases hdir (d' := .stopped) h
    rfl

/-! ### Running one micro-operation n times -/

theorem execTimes_succ {i : Instr} (h : exec i s = .next t) (n : Nat) : execTimes i (n + 1) s = execTimes i n t := by
  rw [execTimes, h]

/-- If i keeps P and moves the field g by f, then n of them move it by f n times. -/
theorem execTimes_iterate {α : Type} {i : Instr} {P : State → Prop} {g : State → α} {f : α → α}
    (hi : ∀ s, P s → ∃ t, exec i s = .next t ∧ P t ∧ g t = f (g s)) (n : Nat) (hs : P s) :
    ∃ t, execTimes i n s = .next t ∧ g t = f^[n] (g s) := by
  induction n generalizing s with
  | zero => exact ⟨s, rfl, rfl⟩
  | succ n ih =>
    obtain ⟨t, he, ht, hg⟩ := hi s hs
    obtain ⟨u, hu, hgu⟩ := ih ht
    refine ⟨u, (execTimes_succ he n).trans hu, ?_⟩
    rw [hgu, hg, Function.iterate_succ_apply]

/-! ### Repeated ADVANCEs (43_sequencer.md R126) -/

/-- Under a fixed direction n ADVANCEs move `IDX` n times by the direction mux. -/
theorem execTimes_advance {d : Dir} (h : s.dir = d.code) (n : Nat) :
    ∃ t, execTimes .advance n s = .next t ∧ t.idx = (nextIndex d)^[n] s.idx :=
  execTimes_iterate (P := fun s => s.dir = d.code) (g := State.idx) (fun _ hd => ⟨_, exec_advance hd, hd, rfl⟩) n h

theorem iterate_nextIndex_forward {i : BitVec 5} (h : i.toNat < 20) (n : Nat) :
    ((nextIndex .forward)^[n] i).toNat = (i.toNat + n) % 20 := by
  induction n generalizing i with
  | zero => exact (Nat.mod_eq_of_lt h).symm
  | succ n ih =>
    rw [Function.iterate_succ_apply, ih (nextIndex_lt _ h), nextIndex_forward]
    omega

theorem iterate_nextIndex_reverse {i : BitVec 5} (h : i.toNat < 20) (n : Nat) :
    (((nextIndex .reverse)^[n] i).toNat : Int) = ((i.toNat : Int) - n) % 20 := by
  induction n generalizing i with
  | zero => simp only [Function.iterate_zero, id_eq]; omega
  | succ n ih =>
    rw [Function.iterate_succ_apply, ih (nextIndex_lt _ h), nextIndex_reverse_int]
    omega

/-- Twenty places round the cycle are none, in either direction. -/
theorem iterate_nextIndex_twenty {d : Dir} {i : BitVec 5} (h : i.toNat < 20) : (nextIndex d)^[20] i = i := by
  apply BitVec.eq_of_toNat_eq
  cases d with
  | forward => have := iterate_nextIndex_forward h 20; omega
  | reverse => have := iterate_nextIndex_reverse h 20; omega
  | stopped => rw [Function.iterate_fixed (nextIndex_stopped i)]

/-- Reverse undoes Forward. -/
theorem nextIndex_reverse_forward {i : BitVec 5} (h : i.toNat < 20) : nextIndex .reverse (nextIndex .forward i) = i := by
  apply BitVec.eq_of_toNat_eq
  rw [nextIndex_reverse, nextIndex_forward]
  omega

/-- Twenty ADVANCEs under any legal direction return the index. -/
theorem execTimes_advance_twenty {d : Dir} (hi : s.idx.toNat < 20) (h : s.dir = d.code) :
    ∃ t, execTimes .advance 20 s = .next t ∧ t.idx = s.idx := by
  obtain ⟨t, ht, hidx⟩ := execTimes_advance h 20
  exact ⟨t, ht, hidx.trans (iterate_nextIndex_twenty hi)⟩

/-- Settles O28: n ADVANCEs are the n-th iterate of the direction mux, whose value is found by induction on n. -/
theorem repeatedAdvancesCycle : Obligations.RepeatedAdvancesCycle := by
  intro s hi
  refine ⟨fun n h => ?_, fun n h => ?_, fun n h => ?_, ?_, fun t h ht => ?_⟩
  · obtain ⟨t, ht, hidx⟩ := execTimes_advance (d := .forward) h n
    exact ⟨t, ht, hidx ▸ iterate_nextIndex_forward hi n⟩
  · obtain ⟨t, ht, hidx⟩ := execTimes_advance (d := .reverse) h n
    exact ⟨t, ht, hidx ▸ iterate_nextIndex_reverse hi n⟩
  · obtain ⟨t, ht, hidx⟩ := execTimes_advance (d := .stopped) h n
    exact ⟨t, ht, hidx.trans (Function.iterate_fixed (nextIndex_stopped s.idx) n)⟩
  · rintro (h | h)
    · exact execTimes_advance_twenty (d := .forward) hi h
    · exact execTimes_advance_twenty (d := .reverse) hi h
  · rw [exec_advance (d := .forward) h] at ht
    cases ht
    exact ⟨_, exec_advance (d := .reverse) rfl, nextIndex_reverse_forward hi⟩

/-! ### HEARTBEAT (43_sequencer.md R123) -/

/-- An even number of inversions is none, an odd number is one. -/
theorem iterate_not_false (n : Nat) : Bool.not^[n] false = decide (n % 2 = 1) := by
  rcases Nat.even_or_odd n with h | h
  · rw [Bool.involutive_not.iterate_even h, Nat.even_iff.mp h]
    rfl
  · rw [Bool.involutive_not.iterate_odd h, Nat.odd_iff.mp h]
    rfl

/-- Settles O25: one HEARTBEAT is `exec_heartbeat` read field by field; n of them invert `HB` n times. -/
theorem heartbeatToggles : Obligations.HeartbeatToggles := by
  refine ⟨fun s => ?_, fun s n hs => ?_⟩
  · obtain ⟨henv, hrow, hports, hdev, hlevels⟩ :=
      sequencer_frame s .sleepArm s.idx (!s.hb) s.sleepMs s.tmr (s.trace ++ [.line .heartbeat (!s.hb)]) rfl
    exact ⟨_, exec_heartbeat, rfl, rfl, rfl, rfl, rfl, rfl, henv, hrow, hports, ⟨rfl, rfl⟩, hdev, hlevels⟩
  · obtain ⟨t, ht, hhb⟩ := execTimes_iterate (i := .heartbeat) (P := fun _ => True) (g := State.hb) (f := Bool.not)
      (fun _ _ => ⟨_, exec_heartbeat, trivial, rfl⟩) n (s := s) trivial
    rw [hs, iterate_not_false] at hhb
    exact ⟨t, ht, hhb⟩

/-! ### SLEEP_ARM and SLEEP_WAIT (43_sequencer.md R124, R125) -/

theorem step_ctl {w : CtlWrite} {rest : List Action} (hs : s.sched = .ctl w :: rest) :
    step s = .next (ctlWrite w { s with sched := rest }) := by
  unfold step
  rw [hs]

/-- Settles O26: SLEEP_ARM is `exec_sleepArm` read field by field; a `CTL` write of `PERIOD` touches that input alone. -/
theorem sleepArmSamplesThePeriod : Obligations.SleepArmSamplesThePeriod := by
  refine ⟨fun s => ?_, fun s p rest hs => ⟨_, step_ctl hs, Nat.mod_eq_of_lt, rfl, rfl⟩⟩
  obtain ⟨henv, hrow, hports, hdev, hlevels⟩ :=
    sequencer_frame s .sleepWait s.idx s.hb s.period (.armed s.period) (s.trace ++ [.timer s.period]) rfl
  exact ⟨_, exec_sleepArm, rfl, rfl, rfl, rfl, rfl, rfl, henv, hrow, hports, ⟨rfl, rfl⟩, hdev, hlevels⟩

/-- Settles O27: at expiry SLEEP_WAIT is `exec_sleepWait`, before it a hold. -/
theorem sleepWaitEndsAtExpiry : Obligations.SleepWaitEndsAtExpiry := by
  refine fun s => ⟨fun ht => ?_, exec_sleepWait_hold⟩
  obtain ⟨henv, hrow, hports, hdev, hlevels⟩ := sequencer_frame s .lookup s.idx s.hb s.sleepMs .idle s.trace rfl
  exact ⟨_, exec_sleepWait ht, rfl, rfl, rfl, ⟨henv, hrow, hports, ⟨rfl, rfl⟩, hlevels, rfl, rfl, rfl⟩, hdev⟩

end Machine
end Sys2Proof
end

section
/-! The proofs of the statements about the start-up handshake (44_startup.md): what each of its five steps does (R131 to R135) and
the order of the start-up's events in the trace (R137). -/

namespace Sys2Proof.Machine

variable {s t : State}

/-! ### The order of the start-up's events (44_startup.md R137) -/

/-- From the first LOOKUP on, the whole start-up sequence at the trace's beginning is all the order asks for. -/
theorem startupOrder_of_started (hst : started t.st = true)
    (h : ∃ r r' es, t.trace = handshakeEvents t.cfg ++
      [dirFrame t.cfg t.cfg.bus.regDirLo r, dirFrame t.cfg t.cfg.bus.regDirHi r'] ++ es) : StartupOrder t := by
  refine ⟨fun h0 => ?_, fun h0 => ?_, fun h0 => ?_, fun h0 => ?_, fun h0 => ?_, fun _ => h⟩
  all_goals rw [h0] at hst; cases hst

/-- Past start-up, events added behind the trace leave the order as it was. -/
theorem StartupOrder.of_append {es : List Event} (hs : StartupOrder s) (hst : started s.st = true)
    (hst' : started t.st = true) (hc : t.cfg = s.cfg) (ht : t.trace = s.trace ++ es) : StartupOrder t := by
  obtain ⟨-, -, -, -, -, hbegin⟩ := hs
  obtain ⟨r, r', es₀, htrace⟩ := hbegin hst
  exact startupOrder_of_started hst' ⟨r, r', es₀ ++ es, by rw [ht, htrace, hc, List.append_assoc]⟩

/-- No `SEQ` step goes back to start-up. -/
theorem SeqEffect.st_started (h : SeqEffect s t) (hs : started s.st = true) : started t.st = true := by
  cases h with
  | hold | idxRange | phRange | dirCode => exact hs
  | initRstHigh hst | initRstLow hst | initRstRelease hst | initIodirLo hst =>
    rw [hst] at hs
    cases hs
  | pwmSet =>
    rw [State.nextPhase_st]
    split <;> rfl
  | _ => rfl

/-- Each start-up step adds its own part of the sequence behind the parts before it; INIT_IODIR_HI completes it. -/
theorem SeqEffect.startupOrder_of_not_started (h : SeqEffect s t) (hn : ¬ started s.st = true) (hs : StartupOrder s) :
    StartupOrder t := by
  have ⟨hhigh, hlow, hrelease, hdirLo, hdirHi, _⟩ := hs
  cases h with
  | hold | idxRange | phRange | dirCode => exact hs
  | initRstHigh hst => exact ⟨nofun, fun _ => by simp [hhigh hst, handshakeEvents], nofun, nofun, nofun, nofun⟩
  | initRstLow hst => exact ⟨nofun, nofun, fun _ => by simp [hlow hst, handshakeEvents], nofun, nofun, nofun⟩
  | initRstRelease hst => exact ⟨nofun, nofun, nofun, fun _ => by simp [hrelease hst, handshakeEvents], nofun, nofun⟩
  | initIodirLo hst =>
    exact ⟨nofun, nofun, nofun, nofun, fun _ => ⟨writeReply s.disarm, by simp [hdirLo hst, dirFrame]⟩, nofun⟩
  | initIodirHi hst =>
    obtain ⟨r, htrace⟩ := hdirHi hst
    exact startupOrder_of_started rfl ⟨r, writeReply s, [], by simp [htrace, dirFrame]⟩
  | lookup hst | pwmSet hst | compose hst | wrLo hst | wrHi hst | rdLo hst | rdHi hst | advance _ hst | heartbeat hst
  | sleepArm hst | sleepWait hst =>
    rw [hst] at hn
    exact absurd rfl hn

theorem SeqEffect.startupOrder (h : SeqEffect s t) (hs : StartupOrder s) : StartupOrder t := by
  by_cases hst : started s.st = true
  · obtain ⟨es, ht, -⟩ := h.trace_append_inCatalogue
    exact hs.of_append hst (h.st_started hst) h.cfg_eq ht
  · exact h.startupOrder_of_not_started hst hs

theorem SameBlock.startupOrder (h : SameBlock s t) (hs : StartupOrder s) : StartupOrder t := by
  unfold StartupOrder
  rw [h.cfg, h.st, h.trace]
  exact hs

theorem startupOrder_powerOn (c : Config) (n : Nat) (sched : List Action) : StartupOrder (State.powerOn c n sched) :=
  ⟨fun _ => rfl, nofun, nofun, nofun, nofun, nofun⟩

/-- Settles O37: the invariant by `step_keeps_block`. A start-up step adds its part of the sequence, a later step adds events behind
it, and a power cycle begins again with the empty trace. -/
theorem startupOrderIsKept : Obligations.StartupOrderIsKept := fun _ _ =>
  step_keeps_block (fun _ _ hp _ he => he.startupOrder hp) (fun _ _ hp hb => hb.startupOrder hp)
    (fun _ _ _ _ => startupOrder_powerOn _ _ _)

/-! ### The three steps of the reset line (44_startup.md R131 to R133) -/

/-- What driving the reset line, arming the timer and moving on does: the line, the timer, their two events in that order, the next
state. -/
theorem resetLineStep_effect (s : State) (b : Bool) (ms : Nat) (st : FsmState) {t : State}
    (h : t = ((s.driveRstN b).arm ms).goto st) :
    t.rstN = b ∧ t.tmr = .armed ms ∧ t.trace = s.trace ++ [.line .rstN b, .timer ms] ∧ t.st = st := by
  subst h
  exact ⟨rfl, rfl, List.append_assoc .., rfl⟩

/-- What it leaves unchanged, whichever way the line is driven. -/
theorem resetLineStep_frame (s : State) (b : Bool) (ms : Nat) (st : FsmState) {t : State}
    (h : t = ((s.driveRstN b).arm ms).goto st) :
    KeepsEnvironment s t ∧ KeepsRow s t ∧ KeepsPorts s t ∧ KeepsLevels s t := by
  subst h
  exact ⟨⟨rfl, rfl, rfl, rfl, rfl, rfl, rfl⟩, ⟨rfl, rfl⟩, ⟨rfl, rfl⟩, fun _ => rfl⟩

/-- A high reset line leaves the expander alone. -/
theorem keepsExpander_driveRstN_true (s : State) : KeepsExpander s (s.driveRstN true) :=
  ⟨fun _ => ⟨rfl, devByte_driveRstN_true _ _⟩, rfl, rfl⟩

/-- Settles O11: INIT_RST_HIGH is a step of the reset line, upwards, from every state. -/
theorem initRstHighDrivesTheLineHigh : Obligations.InitRstHighDrivesTheLineHigh := by
  intro s
  obtain ⟨hline, htmr, htrace, hst⟩ := resetLineStep_effect s true s.cfg.tRstPreMs .initRstLow rfl
  obtain ⟨henv, hrow, hports, hlevels⟩ := resetLineStep_frame s true s.cfg.tRstPreMs .initRstLow rfl
  exact ⟨_, exec_initRstHigh, hline, htmr, htrace, hst, henv, hrow, hports, hlevels, keepsExpander_driveRstN_true s, rfl, rfl,
    rfl, rfl⟩

/-- Settles O12: at expiry both are a step of the reset line, from the state with the timer Idle; before it both hold. -/
theorem initRstLowAndReleaseDriveTheLine : Obligations.InitRstLowAndReleaseDriveTheLine := by
  refine fun s => ⟨fun ht => ⟨?_, ?_⟩, fun ht => ⟨exec_initRstLow_hold ht, exec_initRstRelease_hold ht⟩⟩
  · obtain ⟨hline, htmr, htrace, hst⟩ := resetLineStep_effect s.disarm false s.cfg.tRstLowMs .initRstRelease rfl
    obtain ⟨henv, hrow, hports, hlevels⟩ := resetLineStep_frame s.disarm false s.cfg.tRstLowMs .initRstRelease rfl
    exact ⟨_, exec_initRstLow ht, hline, htmr, htrace, hst, henv, hrow, hports, hlevels, rfl, rfl, rfl, rfl, rfl⟩
  · obtain ⟨hline, htmr, htrace, hst⟩ := resetLineStep_effect s.disarm true s.cfg.tRstPostMs .initIodirLo rfl
    obtain ⟨henv, hrow, hports, hlevels⟩ := resetLineStep_frame s.disarm true s.cfg.tRstPostMs .initIodirLo rfl
    exact ⟨_, exec_initRstRelease ht, hline, htmr, htrace, hst, henv, hrow, hports, hlevels,
      keepsExpander_driveRstN_true s.disarm, rfl, rfl, rfl, rfl⟩

/-! ### The expander after a low reset line (44_startup.md R130) -/

/-- Settles O13: the low line empties the list of written registers, so each register holds a free byte of this reset. -/
theorem resetLineLowLeavesNoRegisterValue : Obligations.ResetLineLowLeavesNoRegisterValue := fun s ht =>
  ⟨_, exec_initRstLow ht, fun a => ⟨Memory.read_nil a, devByte_driveRstN_false s.disarm a⟩⟩

/-! ### The direction registers (44_startup.md R134, R135) -/

/-- Settles O14: each step is one write frame and the move to the next state; INIT_IODIR_LO holds until the timer has expired. -/
theorem directionRegisterWrites : Obligations.DirectionRegisterWrites := fun s =>
  ⟨fun ht => ⟨_, exec_initIodirLo ht, (frameWritten_busWrite s.disarm _ _).goto _, rfl, rfl,
      (keepsRegisters_busWrite s.disarm _ _).goto _⟩,
    exec_initIodirLo_hold,
    _, exec_initIodirHi, (frameWritten_busWrite s _ _).goto _, rfl, rfl, (keepsRegisters_busWrite s _ _).goto _⟩

end Sys2Proof.Machine
end

section
/-! The proofs of the statements about faults and the environment (60_exceptions.md): what a raise does (R144), that the contract
keeps every fault out of reach (R143), CTL's start-up values (R152), and the actions of `REF_ENV` (R155 to R158). -/

namespace Sys2Proof.Machine

variable {s t : State}

/-! ### What an instruction can do to FAULT (60_exceptions.md R144) -/

/-- A waiting micro-operation keeps FAULT, whether it holds or goes on. -/
theorem exec_waiting_keeps_fault {st : FsmState} (hw : waitsForTimer st = true) (s : State) :
    ∃ t, exec st.instr s = .next t ∧ t.fault = s.fault := by
  by_cases ht : s.tmr = .expired
  · cases st with
    | initRstLow => exact ⟨_, exec_initRstLow ht, rfl⟩
    | initRstRelease => exact ⟨_, exec_initRstRelease ht, rfl⟩
    | initIodirLo => exact ⟨_, exec_initIodirLo ht, rfl⟩
    | sleepWait => exact ⟨_, exec_sleepWait ht, rfl⟩
    | _ => cases hw
  · exact ⟨s, exec_hold hw ht, rfl⟩

/-- Every instruction answers next: it keeps FAULT, or it is one of the three that check, and sets FAULT alone. -/
theorem exec_next_or_raises (i : Instr) (s : State) :
    ∃ t, exec i s = .next t ∧
      (t.fault = s.fault ∨ (i = .lookup ∨ i = .pwmSet ∨ i = .advance) ∧ ∃ f, t = s.setFault f) := by
  cases i with
  | lookup =>
    by_cases hi : s.idx.toNat < 20
    · exact ⟨_, exec_lookup hi, .inl rfl⟩
    · exact ⟨_, exec_lookup_fault (by omega), .inr ⟨.inl rfl, _, rfl⟩⟩
  | pwmSet =>
    by_cases hp : s.ph.toNat < 5
    · exact ⟨_, exec_pwmSet hp, .inl (State.nextPhase_fault _)⟩
    · exact ⟨_, exec_pwmSet_fault hp, .inr ⟨.inr (.inl rfl), _, rfl⟩⟩
  | advance =>
    rcases exec_advance_cases s with ⟨d, -, he⟩ | ⟨-, he⟩
    · exact ⟨_, he, .inl rfl⟩
    · exact ⟨_, he, .inr ⟨.inr (.inr rfl), _, rfl⟩⟩
  | initRstLow => exact (exec_waiting_keeps_fault (st := .initRstLow) rfl s).imp fun _ => .imp_right .inl
  | initRstRelease => exact (exec_waiting_keeps_fault (st := .initRstRelease) rfl s).imp fun _ => .imp_right .inl
  | initIodirLo => exact (exec_waiting_keeps_fault (st := .initIodirLo) rfl s).imp fun _ => .imp_right .inl
  | sleepWait => exact (exec_waiting_keeps_fault (st := .sleepWait) rfl s).imp fun _ => .imp_right .inl
  | _ => exact ⟨_, rfl, .inl rfl⟩

/-- Settles O30: an instruction that does not keep FAULT is one of the three, and sets nothing else. -/
theorem raisingStepHasNoOtherEffect : Obligations.RaisingStepHasNoOtherEffect := by
  intro i s t hs he ht
  obtain ⟨u, hu, hcases⟩ := exec_next_or_raises i s
  cases he.symm.trans hu
  rcases hcases with hkeep | ⟨hi, f, rfl⟩
  · exact absurd (hkeep.trans hs) ht
  · exact ⟨hi, rfl⟩

/-! ### No fault under the contract (60_exceptions.md R143) -/

theorem seqStep_next_of_no_fault (hs : s.fault = none) : ∃ t, seqStep s = .next t := by
  obtain ⟨t, he, -⟩ := exec_next_or_raises s.st.instr s
  exact ⟨t, (seqStep_alive hs).trans he⟩

/-- Without a fault every agent's step answers next. -/
theorem step_next_of_no_fault (hs : s.fault = none) : ∃ t, step s = .next t := by
  unfold step
  split
  · split
    · exact ⟨_, rfl⟩
    · exact seqStep_next_of_no_fault hs
  · exact seqStep_next_of_no_fault hs
  all_goals exact ⟨_, rfl⟩

/-- The block writes no control input, nothing of `REF_ENV`, no parameter and no schedule. -/
theorem SeqEffect.keepsEnvironment (h : SeqEffect s t) : KeepsEnvironment s t := by
  cases h <;> simp [KeepsEnvironment]

/-- The index stays in range (10_state.md R27). -/
theorem SeqEffect.idx_lt (h : SeqEffect s t) (hi : s.idx.toNat < 20) : t.idx.toNat < 20 := by
  cases h with
  | advance d => exact nextIndex_lt d hi
  | _ => simpa using hi

/-- The phase counter stays in range (10_state.md R29). -/
theorem SeqEffect.ph_lt (h : SeqEffect s t) (hp : s.ph.toNat < 5) : t.ph.toNat < 5 := by
  cases h with
  | lookup => simp
  | pwmSet =>
    by_cases hlast : s.ph.toNat = 4
    · rw [(State.nextPhase_of_last (s := s.pwmWrite _ _) hlast).1]
      exact hp
    · have hlt : s.ph.toNat < 4 := by omega
      rw [(State.nextPhase_of_lt (s := s.pwmWrite _ _) hlt).1]
      exact Nat.succ_lt_succ hlt
  | _ => simpa using hp

/-- With index, phase and direction in range no cause of R141 is met. -/
theorem not_raises {f : Fault} (hi : s.idx.toNat < 20) (hp : s.ph.toNat < 5) (hd : s.dir ≠ 0b11#2) : ¬ Raises s f := by
  rintro (⟨-, hidx, -⟩ | ⟨-, hph, -⟩ | ⟨-, hdir, -⟩)
  · omega
  · omega
  · exact hd hdir

theorem SeqEffect.faultFree (h : SeqEffect s t) (hs : FaultFree s) : FaultFree t := by
  obtain ⟨hf, hi, hp, hd, hsched, hpending⟩ := hs
  obtain ⟨hcfg, hdir, -, -, -, hpend, hsch⟩ := h.keepsEnvironment
  have hfault : t.fault = none := by
    rcases h.fault_cases with hk | ⟨f, -, hr⟩
    · exact hk.trans hf
    · exact absurd hr (not_raises hi hp hd)
  unfold FaultFree ContractSchedule
  rw [hdir, hpend, hsch, hcfg]
  exact ⟨hfault, h.idx_lt hi, h.ph_lt hp, hd, hsched, hpending⟩

/-- Taking an item off the schedule leaves a schedule that keeps the contract. -/
theorem FaultFree.pop {a : Action} {rest : List Action} (h : FaultFree s) (hs : s.sched = a :: rest) :
    FaultFree { s with sched := rest } := by
  obtain ⟨hf, hi, hp, hd, hsched, hpending⟩ := h
  exact ⟨hf, hi, hp, hd, fun b hb => hsched b (hs ▸ List.mem_cons_of_mem a hb), hpending⟩

/-- A write of the contract is a legal direction, or no direction. -/
theorem CtlWrite.dirLegal_of_meets {c : Config} {w : CtlWrite} (h : w.meets c = true) : w.dirLegal = true := by
  cases w with
  | dir k => exact h
  | duty d | period p => rfl

theorem FaultFree.ctlWrite {w : CtlWrite} (h : FaultFree s) (hw : w.dirLegal = true) : FaultFree (ctlWrite w s) := by
  obtain ⟨hf, hi, hp, hd, hsched, hpending⟩ := h
  cases w with
  | dir c => exact ⟨hf, hi, hp, by simpa [CtlWrite.dirLegal, Machine.ctlWrite] using hw, hsched, hpending⟩
  | duty d | period p => exact ⟨hf, hi, hp, hd, hsched, hpending⟩

theorem FaultFree.ctlNext (h : FaultFree s) : FaultFree (ctlNext s) := by
  obtain ⟨hf, hi, hp, hd, hsched, hpending⟩ := h
  unfold Machine.ctlNext
  split
  · exact ⟨hf, hi, hp, hd, hsched, hpending⟩
  · next w ws hw =>
    rw [hw] at hpending
    exact FaultFree.ctlWrite ⟨hf, hi, hp, hd, hsched, fun v hv => hpending v (List.mem_cons_of_mem w hv)⟩
      (hpending w List.mem_cons_self)

/-- The cycle of R157 on codes. -/
theorem nextDirCode_code (d : Dir) : nextDirCode d.code = (dirAfterPress d).code := by
  cases d <;> rfl

/-- The cycle of R157 stays within the three legal codes. -/
theorem nextDirCode_legal {c : BitVec 2} (h : c ≠ 0b11#2) : nextDirCode c ≠ 0b11#2 := by
  cases hd : Dir.ofCode c with
  | none => exact absurd ((Dir.ofCode_eq_none c).mp hd) h
  | some d =>
    rw [← Dir.code_of_ofCode c d hd, nextDirCode_code]
    cases d <;> decide

/-- From a legal direction the writes of the mode/reset action are legal, in every order. -/
theorem resetWrites_dirLegal (order : ResetOrder) (hd : s.dir ≠ 0b11#2) : ∀ w ∈ resetWrites order s, w.dirLegal = true := by
  have hnext := nextDirCode_legal hd
  cases order <;> simp [resetWrites, CtlWrite.dirLegal, hnext]

theorem FaultFree.refEnvTick (h : FaultFree s) (snap : Vector Bool 5) (press : Bool) (order : ResetOrder) :
    FaultFree (refEnvTick snap press order s) := by
  obtain ⟨hf, hi, hp, hd, hsched, hpending⟩ := h
  obtain ⟨ws, n, htick, hws⟩ := refEnvTick_cases snap press order s
  rw [htick]
  refine ⟨hf, hi, hp, hd, hsched, ?_⟩
  rcases hws with rfl | rfl | ⟨d, rfl⟩ | ⟨d, rfl⟩ | rfl
  · exact hpending
  · exact List.forall_mem_nil _
  · exact List.forall_mem_singleton.mpr rfl
  · exact List.forall_mem_singleton.mpr rfl
  · exact resetWrites_dirLegal order hd

theorem FaultFree.tmrStep (h : FaultFree s) : FaultFree (tmrStep s) := by
  rcases tmrStep_cases s with ⟨ms, -, ht⟩ | ⟨-, ht⟩
  · rw [ht]; exact h
  · rw [ht]; exact h

theorem faultFree_powerOn {c : Config} (n : Nat) {sched : List Action} (h : ∀ a ∈ sched, a.meets c = true) :
    FaultFree (State.powerOn c n sched) :=
  ⟨rfl, Nat.zero_lt_succ 19, Nat.zero_lt_succ 4, by simp [State.powerOn], h, List.forall_mem_nil _⟩

/-- Every step of every agent keeps `FaultFree`. -/
theorem FaultFree.step (hs : FaultFree s) (h : step s = .next t) : FaultFree t := by
  refine step_keeps (fun _ _ hs _ he => he.faultFree hs) (fun _ _ _ hs hpop => hs.pop hpop) (fun _ hs => hs.tmrStep)
    (fun s w rest hs hpop => ?_) (fun _ hs => hs.ctlNext) (fun _ snap press order hs => hs.refEnvTick snap press order)
    (fun _ _ hs => hs) (fun s hs => ?_) hs h
  · have ⟨_, _, _, _, hsched, _⟩ := hs
    have hw : w.meets s.cfg = true := hsched (.ctl w) (hpop ▸ List.mem_cons_self)
    exact (hs.pop hpop).ctlWrite (CtlWrite.dirLegal_of_meets hw)
  · obtain ⟨-, -, -, -, hsched, -⟩ := hs
    exact faultFree_powerOn s.draws hsched

/-- Settles O31: power-on meets `FaultFree`, a step without a fault answers next, and every step keeps `FaultFree`. -/
theorem noFaultUnderTheContract : Obligations.NoFaultUnderTheContract := by
  refine ⟨fun _ n _ h => faultFree_powerOn n h, fun s hs => ?_⟩
  have ⟨hf, _⟩ := hs
  obtain ⟨t, ht⟩ := step_next_of_no_fault hf
  exact ⟨t, ht, hs.step ht⟩

/-! ### CTL's start-up values (60_exceptions.md R152) -/

/-- Settles O53: the values `State.powerOn` gives the inputs and the accumulator. -/
theorem startupInputs : Obligations.StartupInputs := fun _ _ _ => ⟨rfl, rfl, rfl, rfl⟩

/-! ### A tick of `REF_ENV` and the writes that follow it (60_exceptions.md R153, R160) -/

variable {snap : Vector Bool 5} {press : Bool} {order : ResetOrder} {rest : List Action} {a : BtnAction}

theorem runSteps_succ (h : step s = .next t) (n : Nat) : runSteps (n + 1) s = runSteps n t := by
  rw [runSteps, h]

theorem step_tick (hs : s.sched = .tick snap press order :: rest) :
    step s = .next (refEnvTick snap press order { s with sched := rest }) := by
  unfold step
  rw [hs]

/-- A scheduled step of `REF_ENV` makes the first pending write. -/
theorem step_ctlNext {w : CtlWrite} {ws : List CtlWrite} (hs : s.sched = .ctlNext :: rest) (hp : s.pending = w :: ws) :
    step s = .next (ctlWrite w { s with sched := rest, pending := ws }) := by
  unfold step ctlNext
  rw [hs]
  simp only [hp]

/-- An action is honoured only when some line asks for one. -/
theorem requested_ne_nil_of_honoured {c : Config} (h : honoured c snap = some a) : requested c snap ≠ [] := by
  intro hnil
  have hmem := List.find?_some h
  rw [hnil] at hmem
  cases hmem

/-- A tick outside an invocation does what the honoured action asks. -/
theorem refEnvTick_honoured (hp : s.pending = []) (hh : honoured s.cfg snap = some a) :
    refEnvTick snap press order s = refEnvAction a press order s := by
  unfold refEnvTick
  split
  · next hcons => cases hp.symm.trans hcons
  · split
    · next hnil => exact absurd hnil (requested_ne_nil_of_honoured hh)
    · rw [hh]

/-- With no line active a tick outside an invocation resets the accumulator. -/
theorem refEnvTick_released (hp : s.pending = []) :
    refEnvTick #v[false, false, false, false, false] press order s = { s with acc := accBase } := by
  have hnil : requested s.cfg #v[false, false, false, false, false] = [] := rfl
  unfold refEnvTick
  simp only [hp, hnil]

/-- A run that begins with a tick goes on from what the honoured action leaves. -/
theorem runSteps_tick (hp : s.pending = []) (hs : s.sched = .tick snap press order :: rest)
    (hh : honoured s.cfg snap = some a) (n : Nat) :
    runSteps (n + 1) s = runSteps n (refEnvAction a press order { s with sched := rest }) := by
  rw [runSteps_succ (step_tick hs), refEnvTick_honoured (s := { s with sched := rest }) hp hh]

/-- The writes ws, one after the other. -/
def ctlWrites (ws : List CtlWrite) (s : State) : State := ws.foldl (fun t w => ctlWrite w t) s

/-- n steps of `REF_ENV` make the next n pending writes. -/
theorem runSteps_ctlNext {n : Nat} {ws left : List CtlWrite} (hn : ws.length = n)
    (hs : s.sched = List.replicate n .ctlNext ++ rest) (hp : s.pending = ws ++ left) :
    runSteps n s = .next (ctlWrites ws { s with sched := rest, pending := left }) := by
  subst hn
  induction ws generalizing s with
  | nil =>
    cases s
    cases hs
    cases hp
    rfl
  | cons w ws ih =>
    rw [List.length_cons, runSteps_succ (step_ctlNext hs hp)]
    cases w <;> exact ih rfl rfl

/-- Settles O58: one tick, with no line active. -/
theorem releasedButtonsResetTheAccumulator : Obligations.ReleasedButtonsResetTheAccumulator := by
  intro s press order rest hp hs
  have hstep := step_tick hs
  rw [refEnvTick_released (s := { s with sched := rest }) hp] at hstep
  exact ⟨_, hstep, rfl, rfl, rfl, rfl, hp⟩

/-! ### The adjusting actions (60_exceptions.md R155, R156, R159) -/

/-- Writing the adjusted period leaves the clamped one: it fits its width. -/
theorem ctlWrite_adjustedPeriod (hwf : s.cfg.wf = true) (delta : Int) :
    ((ctlWrite (.period (adjustedPeriod s delta)) s).period : Int) =
      clampInt s.cfg.msMin s.cfg.msMax (s.period + delta) := by
  obtain ⟨-, ⟨hle, hfits⟩, -⟩ := (Config.wf_iff s.cfg).mp hwf
  obtain ⟨hval, -, hmax⟩ := clampInt_toNat hle (s.period + delta)
  rw [ctlWrite_period (p := adjustedPeriod s delta) (hmax.trans_lt hfits)]
  exact hval

/-- Writing the adjusted duty leaves the clamped one: it fits its width. -/
theorem ctlWrite_adjustedDuty (hwf : s.cfg.wf = true) (delta : Int) :
    ((ctlWrite (.duty (adjustedDuty s delta)) s).duty : Int) = clampInt 5 s.cfg.wrapMax (s.duty + delta) := by
  obtain ⟨⟨hle, hfits⟩, -⟩ := (Config.wf_iff s.cfg).mp hwf
  obtain ⟨hval, -, hmax⟩ := clampInt_toNat hle (s.duty + delta)
  rw [ctlWrite_duty (d := adjustedDuty s delta) (hmax.trans_lt hfits)]
  exact hval

/-- A tick that honours an action with the one write w, and the step that makes it: w is written and the accumulator has grown. -/
theorem runSteps_adjust {w : CtlWrite} (hp : s.pending = [])
    (hs : s.sched = .tick snap press order :: .ctlNext :: rest) (hh : honoured s.cfg snap = some a)
    (ha : refEnvAction a press order { s with sched := .ctlNext :: rest } =
      { s with sched := .ctlNext :: rest, pending := [w], acc := s.acc + accInc }) :
    runSteps 2 s = .next (ctlWrite w { s with sched := rest, pending := [], acc := s.acc + accInc }) := by
  rw [runSteps_tick hp hs hh 1, ha]
  exact runSteps_ctlNext (ws := [w]) rfl rfl rfl

/-- Settles O55: the tick queues the adjusted period, the next step writes it. -/
theorem periodActionClampsAndAccelerates : Obligations.PeriodActionClampsAndAccelerates :=
  fun s _ _ _ _ hwf hp hs =>
    ⟨fun hh => ⟨_, runSteps_adjust hp hs hh rfl, ctlWrite_adjustedPeriod hwf s.acc, rfl, rfl, rfl, rfl⟩,
      fun hh => ⟨_, runSteps_adjust hp hs hh rfl, ctlWrite_adjustedPeriod hwf (-s.acc), rfl, rfl, rfl, rfl⟩⟩

/-- Settles O56: the tick queues the adjusted duty, the next step writes it. -/
theorem dutyActionClampsAndAccelerates : Obligations.DutyActionClampsAndAccelerates :=
  fun s _ _ _ _ hwf hp hs =>
    ⟨fun hh => ⟨_, runSteps_adjust hp hs hh rfl, ctlWrite_adjustedDuty hwf s.acc, rfl, rfl, rfl, rfl⟩,
      fun hh => ⟨_, runSteps_adjust hp hs hh rfl, ctlWrite_adjustedDuty hwf (-s.acc), rfl, rfl, rfl, rfl⟩⟩

/-! ### The mode/reset action (60_exceptions.md R157) -/

theorem resetWrites_length (order : ResetOrder) (s : State) : (resetWrites order s).length = 3 := by
  cases order <;> rfl

/-- The tick and n steps of `REF_ENV` make the first n writes of the mode/reset action and leave the others pending. -/
theorem runSteps_modeReset {n : Nat} (hn : n ≤ 3) (hp : s.pending = [])
    (hs : s.sched = .tick snap true order :: .ctlNext :: .ctlNext :: .ctlNext :: rest)
    (hh : honoured s.cfg snap = some .modeReset) :
    runSteps (n + 1) s = .next (ctlWrites ((resetWrites order s).take n)
      { s with
        sched := List.replicate (3 - n) .ctlNext ++ rest, pending := (resetWrites order s).drop n
        acc := Config.accAfterMode s.acc }) := by
  have hlen : ((resetWrites order s).take n).length = n := by
    rw [List.length_take, resetWrites_length, min_eq_left hn]
  have hsched : .ctlNext :: .ctlNext :: .ctlNext :: rest =
      List.replicate n .ctlNext ++ (List.replicate (3 - n) .ctlNext ++ rest) := by
    rw [← List.append_assoc, List.replicate_append_replicate, Nat.add_sub_cancel' hn]
    rfl
  rw [runSteps_tick hp hs hh n]
  exact runSteps_ctlNext hlen hsched (List.take_append_drop n (resetWrites order s)).symm

/-- What the first n of the three writes leave in the inputs: one case for each order and each n. -/
theorem ctlWrites_take_resetWrites {n : Nat} {d : Dir} {sched : List Action} {left : List CtlWrite} {acc : Nat}
    (hn : n ≤ 3) (hwf : s.cfg.wf = true) (hd : s.dir = d.code)
    (ht : t = ctlWrites ((resetWrites order s).take n) { s with sched := sched, pending := left, acc := acc }) :
    t.pending = left ∧ t.period = (if order.periodAt < n then s.cfg.defaultPeriodMs else s.period) ∧
      t.duty = (if order.dutyAt < n then s.cfg.wrapMax / 2 else s.duty) ∧
      t.dir = (if order.dirAt < n then dirAfterPress d else d).code := by
  subst ht
  obtain ⟨⟨-, hwrap⟩, ⟨-, hmax⟩, ⟨-, hdefault⟩, -⟩ := (Config.wf_iff s.cfg).mp hwf
  have hperiod : s.cfg.defaultPeriodMs % 2 ^ s.cfg.periodW = s.cfg.defaultPeriodMs :=
    Nat.mod_eq_of_lt (hdefault.trans_lt hmax)
  have hduty : s.cfg.wrapMax / 2 % 2 ^ s.cfg.dutyW = s.cfg.wrapMax / 2 :=
    Nat.mod_eq_of_lt ((Nat.div_le_self _ _).trans_lt hwrap)
  cases order <;> interval_cases n <;>
    simp [resetWrites, ctlWrites, ctlWrite, ResetOrder.periodAt, ResetOrder.dutyAt, ResetOrder.dirAt, hperiod, hduty, hd,
      nextDirCode_code]

/-- Settles O57: the tick queues `resetWrites`; n steps of `REF_ENV` make its first n writes. -/
theorem modeResetInEveryOrder : Obligations.ModeResetInEveryOrder := by
  intro s snap order rest d hwf hp hd hh hs
  refine ⟨⟨_, runSteps_tick hp hs hh 0, ?_⟩, fun n hn => ?_⟩
  · have hdir : nextDirCode s.dir = (dirAfterPress d).code := hd ▸ nextDirCode_code d
    cases order <;> simp [refEnvAction, resetWrites, hdir]
  · obtain ⟨hpending, hinputs⟩ := ctlWrites_take_resetWrites hn hwf hd rfl
    refine ⟨_, runSteps_modeReset hn hp hs hh, ?_, hinputs⟩
    rw [hpending, List.length_drop, resetWrites_length]

end Sys2Proof.Machine
end

section
/-! The proof of the statement about reset (70_reset_and_hazards.md): the values power-on gives (R180). -/

namespace Sys2Proof.Machine

/-- Settles O52: `State.powerOn` writes the ten block registers of 10_state.md R21, the timer and the trace, one field each. -/
theorem powerOnValues : Obligations.PowerOnValues := fun _ _ _ =>
  ⟨rfl, rfl, rfl, rfl, rfl, rfl, rfl, rfl, rfl, rfl, rfl, rfl⟩

end Sys2Proof.Machine
end

section
/-! The proofs of the statements about the encodings (30_encoding.md sections 1 and 2, 20_memory.md section 2): decoding and encoding
undo each other, the bytes of a frame and their order on the wire, and words written out from the spec. -/

namespace Sys2Proof

variable {b : BusConfig} {i : Instr}

/-! ### One format at a time (30_encoding.md R64, R66, R67) -/

/-- The code of a micro-operation is the code of the state that names it. -/
theorem encode_state (b : BusConfig) (st : FsmState) : encode b st.instr = .st st.code := by
  cases st <;> rfl

/-- The code of an arm of ADVANCE is the code of its direction. -/
theorem encode_dir (b : BusConfig) (d : Dir) : encode b d.instr = .dir d.code := by
  cases d <;> rfl

theorem decode_state (b : BusConfig) (st : FsmState) : decode b (.st st.code) = .ok st.instr := by
  simp [decode]

theorem decode_dir (b : BusConfig) (d : Dir) : decode b (.dir d.code) = .ok d.instr := by
  simp [decode]

theorem decode_frameWord (b : BusConfig) (b0 b1 b2 : Byte) :
    decode b (.frame (frameWord b0 b1 b2)) = decodeFrame b b0 b1 b2 := by
  simp [decode]

/-- A direction code that decodes is the code of the arm it decodes to. -/
theorem decode_dir_cases {c : BitVec 2} (h : decode b (.dir c) = .ok i) : ∃ d : Dir, c = d.code ∧ i = d.instr := by
  cases hc : Dir.ofCode c with
  | none => simp [decode, hc] at h
  | some d =>
    obtain rfl := Dir.code_of_ofCode c d hc
    rw [decode_dir] at h
    cases h
    exact ⟨d, rfl, rfl⟩

/-! ### Frames (30_encoding.md R68, R72) -/

/-- Bus bytes that tell the frames apart, difference by difference. -/
theorem BusConfig.framesDistinct_iff : b.framesDistinct = true ↔
    b.opWr ≠ b.opRd ∧ (b.regPortLo ≠ b.regPortHi ∧ b.regPortLo ≠ b.regDirLo ∧ b.regPortLo ≠ b.regDirHi) ∧
      (b.regPortHi ≠ b.regDirLo ∧ b.regPortHi ≠ b.regDirHi) ∧ b.regDirLo ≠ b.regDirHi := by
  simp [BusConfig.framesDistinct]

/-- A frame that decodes is the frame of the row it decodes to: opcode, register and, where R68 fixes it, the third byte. -/
theorem encode_of_decodeFrame {b0 b1 b2 : Byte} (h : decodeFrame b b0 b1 b2 = .ok i) :
    encode b i = .frame (frameWord b0 b1 b2) := by
  unfold decodeFrame at h
  split_ifs at h <;> cases h <;> simp [encode, *]

/-- With bytes that tell the frames apart no row of R68 is taken for another. -/
theorem decode_encode_frame (hb : b.framesDistinct = true) :
    decode b (encode b .wrdirLo) = .ok .wrdirLo ∧ decode b (encode b .wrdirHi) = .ok .wrdirHi ∧
      (∀ data, decode b (encode b (.wrportLo data)) = .ok (.wrportLo data)) ∧
      (∀ data, decode b (encode b (.wrportHi data)) = .ok (.wrportHi data)) ∧
      decode b (encode b .rdportLo) = .ok .rdportLo ∧ decode b (encode b .rdportHi) = .ok .rdportHi := by
  obtain ⟨hop, ⟨hports, hloLo, hloHi⟩, ⟨hhiLo, hhiHi⟩, hdirs⟩ := BusConfig.framesDistinct_iff.mp hb
  simp only [encode, decode_frameWord]
  simp [decodeFrame, hop.symm, hports.symm, hloLo, hloHi, hhiLo, hhiHi, hdirs.symm]

/-! ### Decoding and encoding undo each other -/

/-- Settles O2: state and direction codes by evaluation, the six frames by the differences of their bytes. -/
theorem decodeOfEncodeIsTheInstruction : Obligations.DecodeOfEncodeIsTheInstruction := by
  intro b hb i _
  obtain ⟨hdirLo, hdirHi, hportLo, hportHi, hrdLo, hrdHi⟩ := decode_encode_frame hb
  cases i with
  | wrdirLo => exact hdirLo
  | wrdirHi => exact hdirHi
  | wrportLo data => exact hportLo data
  | wrportHi data => exact hportHi data
  | rdportLo => exact hrdLo
  | rdportHi => exact hrdHi
  | _ => rfl

/-- Settles O3: each format's codes are the codes of what they decode to. -/
theorem encodeOfDecodeIsTheCode : Obligations.EncodeOfDecodeIsTheCode := by
  intro b c i h
  cases c with
  | st c =>
    cases h
    rw [encode_state, FsmState.code_ofCode]
  | dir c =>
    obtain ⟨d, rfl, rfl⟩ := decode_dir_cases h
    exact encode_dir b d
  | frame f => rw [encode_of_decodeFrame h, frameWord_bytes]

/-! ### The bits on the wire (20_memory.md R49, R50) -/

/-- The wire shows the frame's bits from 23 down to 0: eight from each byte, byte 0 first. -/
theorem wireBits_eq (b0 b1 b2 : Byte) :
    wireBits b0 b1 b2 = (List.range 24).map fun i => (frameWord b0 b1 b2).getLsbD (23 - i) := by
  simp only [frameWord_getLsbD]
  rfl

/-- Settles O6: the fields by their lemmas, the wire by `wireBits_eq`. -/
theorem frameFieldsAndWireOrder : Obligations.FrameFieldsAndWireOrder := by
  refine fun b0 b1 b2 => ⟨frameB0_frameWord .., frameB1_frameWord .., frameB2_frameWord .., rfl, fun i hi => ?_⟩
  rw [wireBits_eq, List.getElem?_map, List.getElem?_range hi, Option.map_some]

/-! ### Words of the spec -/

/-- Settles O1: each word is evaluated. -/
theorem specWordsDecode : Obligations.SpecWordsDecode := by
  unfold Obligations.SpecWordsDecode
  decide

end Sys2Proof
end

section
/-! The proofs of the invariants of the drive (40_phase_table.md section 2, 41_pwm_mapper.md, 42_port_codec.md, 70_reset_and_hazards.md
section 3): what row, levels, port bytes and expander hold at each state of the block. Each is kept by `step_keeps_block`; its own part
is the case split on what a `SEQ` step does, and that every power-on state has it. -/

namespace Sys2Proof.Machine

variable {s t : State}

/-! ### Row and port bytes follow the index (40_phase_table.md R82, 42_port_codec.md R107, 43_sequencer.md R127) -/

/-- A move that touches neither row, index nor port bytes keeps what followed the index before it. -/
theorem DriveFollowsIndex.of_kept (hs : DriveFollowsIndex s)
    (hcur : rowIsCurrent t.st = true → rowIsCurrent s.st = true)
    (hstale : portsAreStale t.st = false → portsAreStale s.st = false)
    (hkeep : t.cfg = s.cfg ∧ t.idx = s.idx ∧ t.row = s.row ∧ t.portLo = s.portLo ∧ t.portHi = s.portHi) :
    DriveFollowsIndex t := by
  obtain ⟨hcfg, hidx, hrow, hlo, hhi⟩ := hkeep
  unfold DriveFollowsIndex
  rw [hcfg, hidx, hrow, hlo, hhi]
  exact ⟨fun h => hs.1 (hcur h), fun h => hs.2 (hstale h)⟩

/-- LOOKUP latches the row, COMPOSE the port bytes, ADVANCE moves the index and leaves the states in which the row is current. -/
theorem SeqEffect.driveFollowsIndex (h : SeqEffect s t) (hs : DriveFollowsIndex s) : DriveFollowsIndex t := by
  cases h with
  | hold | idxRange | phRange | dirCode => exact hs
  | lookup _ hi => exact ⟨fun _ => romRead_eq _ hi, nofun⟩
  | compose hst => exact ⟨fun _ => hs.1 (by rw [hst]; rfl), fun _ => ⟨rfl, rfl⟩⟩
  | advance _ hst => exact ⟨nofun, fun _ => hs.2 (by rw [hst]; rfl)⟩
  | pwmSet hst =>
    refine hs.of_kept (fun _ => by rw [hst]; rfl) (fun hstale => ?_) (by simp)
    rw [State.nextPhase_st] at hstale
    split at hstale <;> cases hstale
  | initRstHigh hst | initRstLow hst | initRstRelease hst | initIodirLo hst | initIodirHi hst | wrLo hst | wrHi hst | rdLo hst
  | rdHi hst | heartbeat hst | sleepArm hst | sleepWait hst =>
    exact hs.of_kept (by simp [hst, rowIsCurrent]) (by simp [hst, portsAreStale]) ⟨rfl, rfl, rfl, rfl, rfl⟩

theorem SameBlock.driveFollowsIndex (h : SameBlock s t) (hs : DriveFollowsIndex s) : DriveFollowsIndex t :=
  hs.of_kept (by rw [h.st]; exact id) (by rw [h.st]; exact id) ⟨h.cfg, h.idx, h.row, h.portLo, h.portHi⟩

theorem driveFollowsIndex_powerOn (c : Config) (n : Nat) (sched : List Action) :
    DriveFollowsIndex (State.powerOn c n sched) :=
  ⟨nofun, fun _ => by simp [State.powerOn, portLoOf, portHiOf, on]⟩

/-- Settles O35: the invariant by `step_keeps_block`; a power cycle starts with the off row and clear port bytes. -/
theorem driveKeepsFollowingTheIndex : Obligations.DriveKeepsFollowingTheIndex := fun _ _ =>
  step_keeps_block (fun _ _ hp _ he => he.driveFollowsIndex hp) (fun _ _ hp hb => hb.driveFollowsIndex hp)
    (fun _ _ _ _ => driveFollowsIndex_powerOn _ _ _)

/-! ### The expander's registers (70_reset_and_hazards.md R190, 60_exceptions.md R173) -/

/-- A write frame leaves every register with another address as it was. -/
theorem read_busWrite_other (s : State) (data : Byte) {reg reg' : Byte} (h : reg' ≠ reg) :
    (s.busWrite reg data).dev.read reg'.toNat = s.dev.read reg'.toNat :=
  Memory.read_write_other _ _ fun hnat => h (BitVec.eq_of_toNat_eq hnat)

/-- A move that leaves the two direction registers as they are keeps the lines outputs. -/
theorem LinesAreOutputs.of_kept (hs : LinesAreOutputs s)
    (hlo : t.st = .initIodirHi ∨ started t.st = true → s.st = .initIodirHi ∨ started s.st = true)
    (hhi : started t.st = true → started s.st = true)
    (hkeep : t.cfg = s.cfg ∧ t.dev.read s.cfg.bus.regDirLo.toNat = s.dev.read s.cfg.bus.regDirLo.toNat ∧
      t.dev.read s.cfg.bus.regDirHi.toNat = s.dev.read s.cfg.bus.regDirHi.toNat) :
    LinesAreOutputs t := by
  obtain ⟨hcfg, hreadLo, hreadHi⟩ := hkeep
  unfold LinesAreOutputs
  rw [hcfg, hreadLo, hreadHi]
  exact ⟨fun h => hs.1 (hlo h), fun h => hs.2 (hhi h)⟩

/-- The two INIT_IODIR steps write the two registers; the port writes go to other registers; only start-up's INIT_RST_LOW, before
both, resets the expander. -/
theorem SeqEffect.linesAreOutputs (h : SeqEffect s t) (hb : s.cfg.bus.framesDistinct = true) (hs : LinesAreOutputs s) :
    LinesAreOutputs t := by
  obtain ⟨-, ⟨-, hloLo, hloHi⟩, ⟨hhiLo, hhiHi⟩, hdirs⟩ := BusConfig.framesDistinct_iff.mp hb
  cases h with
  | hold | idxRange | phRange | dirCode => exact hs
  | initRstHigh | initRstLow | initRstRelease => exact ⟨nofun, nofun⟩
  | initIodirLo => exact ⟨fun _ => Memory.read_write_same _ _ _, nofun⟩
  | initIodirHi hst =>
    exact ⟨fun _ => (read_busWrite_other s _ hdirs).trans (hs.1 (.inl hst)), fun _ => Memory.read_write_same _ _ _⟩
  | wrLo hst =>
    exact hs.of_kept (by simp [hst, started]) (by simp [hst, started])
      ⟨rfl, read_busWrite_other s _ hloLo.symm, read_busWrite_other s _ hloHi.symm⟩
  | wrHi hst =>
    exact hs.of_kept (by simp [hst, started]) (by simp [hst, started])
      ⟨rfl, read_busWrite_other s _ hhiLo.symm, read_busWrite_other s _ hhiHi.symm⟩
  | pwmSet hst => exact hs.of_kept (by rw [hst]; exact fun _ => .inr rfl) (by rw [hst]; exact fun _ => rfl) (by simp)
  | lookup hst | compose hst | rdLo hst | rdHi hst | advance _ hst | heartbeat hst | sleepArm hst | sleepWait hst =>
    exact hs.of_kept (by simp [hst, started]) (by simp [hst, started]) ⟨rfl, rfl, rfl⟩

theorem SameBlock.linesAreOutputs (h : SameBlock s t) (hs : LinesAreOutputs s) : LinesAreOutputs t :=
  hs.of_kept (by rw [h.st]; exact id) (by rw [h.st]; exact id) ⟨h.cfg, by rw [h.dev], by rw [h.dev]⟩

theorem linesAreOutputs_powerOn (c : Config) (n : Nat) (sched : List Action) : LinesAreOutputs (State.powerOn c n sched) :=
  ⟨nofun, nofun⟩

/-- For an invariant that needs bus bytes that tell the frames apart: no step changes the bytes. -/
theorem step_keeps_of_framesDistinct {P : State → Prop}
    (hseq : ∀ s t : State, s.cfg.bus.framesDistinct = true → P s → SeqEffect s t → P t)
    (henv : ∀ s t : State, P s → SameBlock s t → P t)
    (hpow : ∀ (c : Config) (n : Nat) (sched : List Action), P (State.powerOn c n sched))
    (hb : s.cfg.bus.framesDistinct = true) (hs : P s) (h : step s = .next t) : P t := by
  refine (step_keeps_block (P := fun s => s.cfg.bus.framesDistinct = true ∧ P s)
    (fun s t hp _ he => ⟨he.cfg_eq ▸ hp.1, hseq s t hp.1 hp.2 he⟩)
    (fun s t hp hsame => ⟨hsame.cfg ▸ hp.1, henv s t hp.2 hsame⟩) (fun s n sched hp => ⟨hp.1, hpow s.cfg n sched⟩)
    ⟨hb, hs⟩ h).2

/-- Settles O36: the invariant, and its reading at the two port writes, which come after start-up. -/
theorem linesStayOutputs : Obligations.LinesStayOutputs := by
  refine ⟨fun _ _ => step_keeps_of_framesDistinct (fun _ _ hb hp he => he.linesAreOutputs hb hp)
    (fun _ _ hp hb => hb.linesAreOutputs hp) linesAreOutputs_powerOn, fun s hs hst => ?_⟩
  have hstarted : started s.st = true := by
    rcases hst with hst | hst <;> rw [hst] <;> rfl
  exact ⟨hs.1 (.inr hstarted), hs.2 hstarted⟩

/-- A move that leaves the port bytes and the two port registers as they are keeps the bytes in the registers. -/
theorem PortsReachExpander.of_kept (hs : PortsReachExpander s)
    (hlow : lowPortWritten t.st = true → lowPortWritten s.st = true)
    (hhigh : highPortWritten t.st = true → highPortWritten s.st = true)
    (hkeep : t.cfg = s.cfg ∧ t.dev = s.dev ∧ t.portLo = s.portLo ∧ t.portHi = s.portHi) :
    PortsReachExpander t := by
  obtain ⟨hcfg, hdev, hlo, hhi⟩ := hkeep
  unfold PortsReachExpander
  rw [hcfg, hdev, hlo, hhi]
  exact ⟨fun h => hs.1 (hlow h), fun h => hs.2 (hhigh h)⟩

/-- The two port writes put the bytes there; up to the next LOOKUP nothing writes bytes or registers. -/
theorem SeqEffect.portsReachExpander (h : SeqEffect s t) (hb : s.cfg.bus.framesDistinct = true)
    (hs : PortsReachExpander s) : PortsReachExpander t := by
  obtain ⟨-, ⟨hports, -⟩, -⟩ := BusConfig.framesDistinct_iff.mp hb
  cases h with
  | hold | idxRange | phRange | dirCode => exact hs
  | initRstHigh | initRstLow | initRstRelease | initIodirLo | initIodirHi | lookup | compose | sleepWait =>
    exact ⟨nofun, nofun⟩
  | pwmSet =>
    unfold PortsReachExpander
    rw [State.nextPhase_st]
    split <;> exact ⟨nofun, nofun⟩
  | wrLo => exact ⟨fun _ => Memory.read_write_same _ _ _, nofun⟩
  | wrHi hst =>
    exact ⟨fun _ => (read_busWrite_other s _ hports).trans (hs.1 (by rw [hst]; rfl)), fun _ => Memory.read_write_same _ _ _⟩
  | rdLo hst | rdHi hst | advance _ hst | heartbeat hst | sleepArm hst =>
    exact hs.of_kept (by simp [hst, lowPortWritten]) (by simp [hst, highPortWritten]) ⟨rfl, rfl, rfl, rfl⟩

theorem SameBlock.portsReachExpander (h : SameBlock s t) (hs : PortsReachExpander s) : PortsReachExpander t :=
  hs.of_kept (by rw [h.st]; exact id) (by rw [h.st]; exact id) ⟨h.cfg, h.dev, h.portLo, h.portHi⟩

theorem portsReachExpander_powerOn (c : Config) (n : Nat) (sched : List Action) :
    PortsReachExpander (State.powerOn c n sched) :=
  ⟨nofun, nofun⟩

/-- A read frame with its comparison adds its one event where the byte read is the byte written. -/
theorem verify_busRead_trace_of_match {reg wrote : Byte} (h : (readReply s).r2 = wrote) :
    ∃ r0 r1, ((s.busRead reg).verify reg wrote (readReply s).r2).trace =
      s.trace ++ [.frame s.cfg.bus.opRd reg 0x00#8 r0 r1 wrote] :=
  ⟨(readReply s).r0, (readReply s).r1, by simp [h]⟩

/-- Settles O49: the invariant, and that an echo of the register is then an echo of the port byte. -/
theorem echoingDeviceIsNeverReported : Obligations.EchoingDeviceIsNeverReported := by
  refine ⟨fun _ _ => step_keeps_of_framesDistinct (fun _ _ hb hp he => he.portsReachExpander hb hp)
    (fun _ _ hp hb => hb.portsReachExpander hp) portsReachExpander_powerOn,
    fun s t hs => ⟨fun hst hecho he => ?_, fun hst hecho he => ?_⟩⟩
  · cases exec_rdLo.symm.trans he
    exact verify_busRead_trace_of_match (hecho.trans (devByte_of_read (hs.1 (by rw [hst]; rfl))))
  · cases exec_rdHi.symm.trans he
    exact verify_busRead_trace_of_match (hecho.trans (devByte_of_read (hs.2 (by rw [hst]; rfl))))

/-! ### Off phases (41_pwm_mapper.md R90) -/

/-- A move that touches neither row nor levels, and leaves LOOKUP's iteration no further than it was, keeps off phases off. -/
theorem OffPhasesAreOff.of_kept (hs : OffPhasesAreOff s) (hset : levelsAreSet t.st = true → levelsAreSet s.st = true)
    (hpwm : t.st = .pwmSet → s.st = .pwmSet) (hkeep : t.row = s.row ∧ t.level = s.level ∧ t.ph = s.ph) :
    OffPhasesAreOff t := by
  obtain ⟨hrow, hlevel, hph⟩ := hkeep
  unfold OffPhasesAreOff
  rw [hrow, hlevel, hph]
  exact fun k hk hdone => hs k hk (hdone.imp hset (.imp_left hpwm))

/-- After PWM_SET at phase `PH` the phases done are `PH` and those done before it. -/
theorem done_before_pwmWrite {k : Fin 5} {l : Nat} (hst : s.st = .pwmSet) (hp : s.ph.toNat < 5) (hk : k.val ≠ s.ph.toNat)
    (h : levelsAreSet (s.pwmWrite ⟨s.ph.toNat, hp⟩ l).nextPhase.st = true ∨
      ((s.pwmWrite ⟨s.ph.toNat, hp⟩ l).nextPhase.st = .pwmSet ∧
        k.val < (s.pwmWrite ⟨s.ph.toNat, hp⟩ l).nextPhase.ph.toNat)) :
    s.st = .pwmSet ∧ k.val < s.ph.toNat := by
  refine ⟨hst, ?_⟩
  by_cases hlast : s.ph.toNat = 4
  · omega
  · obtain ⟨hph, hst'⟩ := State.nextPhase_of_lt (s := s.pwmWrite ⟨s.ph.toNat, hp⟩ l) (by simp; omega)
    rw [hph, hst', State.pwmWrite_ph] at h
    rcases h with h | ⟨-, h⟩
    · cases h
    · omega

/-- LOOKUP begins with no phase done; PWM_SET writes 0 to an off phase and leaves the others as they were. -/
theorem SeqEffect.offPhasesAreOff (h : SeqEffect s t) (hs : OffPhasesAreOff s) : OffPhasesAreOff t := by
  cases h with
  | hold | idxRange | phRange | dirCode => exact hs
  | lookup =>
    rintro k - (h | ⟨-, h⟩)
    · cases h
    · exact absurd h (Nat.not_lt_zero _)
  | pwmSet hst hp =>
    intro k hk hdone
    rw [State.nextPhase_row, State.pwmWrite_row] at hk
    rw [State.nextPhase_level, State.pwmWrite_level]
    by_cases hkph : k.val = s.ph.toNat
    · obtain rfl : k = ⟨s.ph.toNat, hp⟩ := Fin.ext hkph
      have hrow : s.row[s.ph.toNat] = .zero := hk
      simp [hrow]
    · have hold : s.level[k] = 0 := hs k hk (.inr (done_before_pwmWrite hst hp hkph hdone))
      simpa [Vector.getElem_set_ne, Ne.symm hkph] using hold
  | initRstHigh hst | initRstLow hst | initRstRelease hst | initIodirLo hst | initIodirHi hst | compose hst | wrLo hst
  | wrHi hst | rdLo hst | rdHi hst | advance _ hst | heartbeat hst | sleepArm hst | sleepWait hst =>
    exact hs.of_kept (by simp [hst, levelsAreSet]) nofun ⟨rfl, rfl, rfl⟩

theorem SameBlock.offPhasesAreOff (h : SameBlock s t) (hs : OffPhasesAreOff s) : OffPhasesAreOff t :=
  hs.of_kept (by rw [h.st]; exact id) (by rw [h.st]; exact id) ⟨h.row, h.level, h.ph⟩

theorem offPhasesAreOff_powerOn (c : Config) (n : Nat) (sched : List Action) : OffPhasesAreOff (State.powerOn c n sched) := by
  rintro k - (h | ⟨h, -⟩) <;> cases h

/-- Settles O39: the invariant by `step_keeps_block`; an environment step touches neither row nor levels. -/
theorem offPhasesStayOff : Obligations.OffPhasesStayOff := fun _ _ =>
  step_keeps_block (fun _ _ hp _ he => he.offPhasesAreOff hp) (fun _ _ hp hb => hb.offPhasesAreOff hp)
    (fun _ _ _ _ => offPhasesAreOff_powerOn _ _ _)

/-! ### Port bits no phase drives (10_state.md R41, 42_port_codec.md R101) -/

theorem portLoOf_undriven (r : Row) : portLoOf r &&& 0x1F#8 = 0 := by
  unfold portLoOf
  generalize on r[0] = a, on r[1] = b, on r[2] = c
  revert a b c
  decide

theorem portHiOf_undriven (r : Row) : portHiOf r &&& 0xFC#8 = 0 := by
  unfold portHiOf
  generalize on r[3] = a, on r[4] = b
  revert a b
  decide

/-- COMPOSE alone writes the port bytes. -/
theorem SeqEffect.ports_cases (h : SeqEffect s t) :
    (t.portLo = s.portLo ∧ t.portHi = s.portHi) ∨ (t.portLo = portLoOf s.row ∧ t.portHi = portHiOf s.row) := by
  cases h with
  | compose => exact .inr ⟨rfl, rfl⟩
  | _ => left; simp

theorem SeqEffect.undrivenBitsClear (h : SeqEffect s t) (hs : UndrivenBitsClear s) : UndrivenBitsClear t := by
  unfold UndrivenBitsClear
  rcases h.ports_cases with ⟨hlo, hhi⟩ | ⟨hlo, hhi⟩ <;> rw [hlo, hhi]
  · exact hs
  · exact ⟨portLoOf_undriven s.row, portHiOf_undriven s.row⟩

theorem SameBlock.undrivenBitsClear (h : SameBlock s t) (hs : UndrivenBitsClear s) : UndrivenBitsClear t := by
  unfold UndrivenBitsClear
  rw [h.portLo, h.portHi]
  exact hs

theorem undrivenBitsClear_powerOn (c : Config) (n : Nat) (sched : List Action) :
    UndrivenBitsClear (State.powerOn c n sched) :=
  ⟨by simp [State.powerOn], by simp [State.powerOn]⟩

/-- Settles O40: the invariant by `step_keeps_block`; the bytes COMPOSE writes have the undriven bits clear. -/
theorem undrivenPortBitsStayClear : Obligations.UndrivenPortBitsStayClear := fun _ _ =>
  step_keeps_block (fun _ _ hp _ he => he.undrivenBitsClear hp) (fun _ _ hp hb => hb.undrivenBitsClear hp)
    (fun _ _ _ _ => undrivenBitsClear_powerOn _ _ _)

/-! ### The expander memory's form (20_memory.md R46) -/

/-- A `SEQ` step writes one register, or empties the memory, or leaves it. -/
theorem SeqEffect.dev_cases (h : SeqEffect s t) :
    t.dev = s.dev ∨ t.dev = [] ∨ ∃ reg data : Byte, t.dev = s.dev.write reg.toNat data := by
  cases h with
  | initRstLow => exact .inr (.inl rfl)
  | initIodirLo | initIodirHi | wrLo | wrHi => exact .inr (.inr ⟨_, _, rfl⟩)
  | _ => left; simp

theorem SeqEffect.dev_wf (h : SeqEffect s t) (hs : s.dev.wf = true) : t.dev.wf = true := by
  rcases h.dev_cases with hd | hd | ⟨reg, data, hd⟩ <;> rw [hd]
  · exact hs
  · exact Memory.wf_nil
  · exact Memory.wf_write hs reg.isLt data

/-- Settles O41: the invariant by `step_keeps_block`; a write keeps the form (`Memory.wf_write`). -/
theorem expanderMemoryStaysCanonical : Obligations.ExpanderMemoryStaysCanonical := fun _ _ =>
  step_keeps_block (P := fun s => s.dev.wf = true) (fun _ _ hp _ he => he.dev_wf hp) (fun _ _ hp hb => hb.dev ▸ hp)
    (fun _ _ _ _ => rfl)

end Sys2Proof.Machine
end

section
/-! The proofs of the statements about the timer (60_exceptions.md section 5), the trace and the index (10_state.md): which agent's step
can change them, and how. -/

namespace Sys2Proof.Machine

variable {s t : State} {rest : List Action}

/-! ### Each agent's own step, by the head of the schedule -/

theorem step_tmr (hs : s.sched = .tmr :: rest) : step s = .next (tmrStep { s with sched := rest }) := by
  unfold step
  rw [hs]

theorem step_powerCycle (hs : s.sched = .powerCycle :: rest) : step s = .next (State.powerOn s.cfg s.draws rest) := by
  unfold step
  rw [hs]
  rfl

/-- As `step_block_cases`, with the schedule: a `SEQ` effect needs a schedule that gives the step to the block. -/
theorem step_agent_cases (h : step s = .next t) :
    (∃ rest, (s.sched = [] ∨ s.sched = .seq :: rest) ∧ SeqEffect { s with sched := rest } t) ∨ SameBlock s t ∨
      ∃ rest, s.sched = .powerCycle :: rest ∧ t = State.powerOn s.cfg s.draws rest := by
  rcases step_cases h with ⟨rest, hs, -, he⟩ | ⟨-, -, rfl⟩ | ⟨rest, -, rfl⟩ | ⟨w, rest, -, rfl⟩ |
    ⟨snap, press, order, rest, -, rfl⟩ | ⟨rest, -, rfl⟩ | ⟨v, rest, -, rfl⟩ | ⟨rest, hs, rfl⟩
  · exact .inl ⟨rest, hs.symm.imp_left And.left, exec_seqEffect (s := { s with sched := rest }) he⟩
  · exact .inr (.inl (sameBlock_tmrStep s))
  · exact .inr (.inl (sameBlock_tmrStep _).of_pop)
  · exact .inr (.inl (sameBlock_ctlWrite w _).of_pop)
  · exact .inr (.inl (sameBlock_refEnvTick snap press order _).of_pop)
  · exact .inr (.inl (sameBlock_ctlNext _).of_pop)
  · exact .inr (.inl (sameBlock_setDevRd v _).of_pop)
  · exact .inr (.inr ⟨rest, hs, rfl⟩)

/-! ### The trace (10_state.md R45) -/

/-- Settles O43: a `SEQ` step adds its events, an environment step none, a power cycle empties the trace. -/
theorem traceOnlyGrows : Obligations.TraceOnlyGrows := by
  intro s t h
  rcases step_agent_cases h with ⟨rest, hs, he⟩ | hb | ⟨rest, hs, rfl⟩
  · obtain ⟨es, ht, -⟩ := he.trace_append_inCatalogue
    exact .inl ⟨es, ht, fun _ => hs.imp_right fun hseq => ⟨rest, hseq⟩⟩
  · exact .inl ⟨[], by rw [hb.trace, List.append_nil], fun hne => absurd rfl hne⟩
  · exact .inr ⟨rest, hs, rfl⟩

/-! ### The index (10_state.md R26) -/

/-- A `SEQ` step keeps the index, or is ADVANCE by a legal direction. -/
theorem SeqEffect.idx_cases (h : SeqEffect s t) :
    t.idx = s.idx ∨ ∃ d : Dir, s.st = .advance ∧ s.dir = d.code ∧ t.idx = nextIndex d s.idx := by
  cases h with
  | advance d hst hd => exact .inr ⟨d, hst, hd, rfl⟩
  | _ => left; simp

/-- A `SEQ` step that moves the index is ADVANCE under Forward or Reverse: Stopped moves it nowhere. -/
theorem SeqEffect.moves_idx (h : SeqEffect s t) (hne : t.idx ≠ s.idx) :
    s.st = .advance ∧ (s.dir = 0b00#2 ∨ s.dir = 0b01#2) := by
  rcases h.idx_cases with hk | ⟨d, hst, hd, hidx⟩
  · exact absurd hk hne
  · cases d with
    | forward => exact ⟨hst, .inl hd⟩
    | reverse => exact ⟨hst, .inr hd⟩
    | stopped => exact absurd (hidx.trans (nextIndex_stopped s.idx)) hne

/-- Settles O44: a `SEQ` step by `SeqEffect.moves_idx`; an environment step leaves the index, a power cycle is the other clause. -/
theorem onlyAdvanceMovesTheIndex : Obligations.OnlyAdvanceMovesTheIndex := by
  intro s t h hne
  rcases step_agent_cases h with ⟨rest, hs, he⟩ | hb | ⟨rest, hs, -⟩
  · obtain ⟨hst, hdir⟩ := he.moves_idx hne
    exact .inl ⟨hst, hdir, hs.imp_right fun hseq => ⟨rest, hseq⟩⟩
  · exact absurd hb.idx hne
  · exact .inr ⟨rest, hs⟩

/-! ### The timer (60_exceptions.md R170) -/

theorem TimerInStep.idle (hs : TimerInStep s) (hw : waitsForTimer s.st = false) : s.tmr = .idle := by
  by_contra hne
  rw [hs.1.mpr hne] at hw
  cases hw

theorem timerInStep_of_idle (hw : waitsForTimer t.st = false) (ht : t.tmr = .idle) : TimerInStep t := by
  refine ⟨iff_of_false (by simp [hw]) (absurd ht), fun hst => ?_⟩
  rw [hst] at hw
  cases hw

/-- Entering a waiting state with the timer armed, in SLEEP_WAIT for the sampled period, is in step. -/
theorem timerInStep_of_armed {ms : Nat} (hw : waitsForTimer t.st = true) (ht : t.tmr = .armed ms)
    (hms : t.st = .sleepWait → ms = t.sleepMs) : TimerInStep t :=
  ⟨iff_of_true hw (by simp [ht]), fun hst => .inl (hms hst ▸ ht)⟩

/-- The four arming steps enter a waiting state; every other step runs from an Idle timer or uses the expiry up. -/
theorem SeqEffect.timerInStep (h : SeqEffect s t) (hs : TimerInStep s) : TimerInStep t := by
  cases h with
  | hold | idxRange | phRange | dirCode => exact hs
  | initRstHigh | initRstLow | initRstRelease => exact timerInStep_of_armed rfl rfl nofun
  | sleepArm => exact timerInStep_of_armed rfl rfl fun _ => rfl
  | initIodirLo | sleepWait => exact timerInStep_of_idle rfl rfl
  | pwmSet hst =>
    refine timerInStep_of_idle ?_ ((State.nextPhase_tmr _).trans (hs.idle (by rw [hst]; rfl)))
    rw [State.nextPhase_st]
    split <;> rfl
  | initIodirHi hst | lookup hst | compose hst | wrLo hst | wrHi hst | rdLo hst | rdHi hst | advance _ hst | heartbeat hst =>
    exact timerInStep_of_idle rfl (hs.idle (by rw [hst]; rfl))

theorem SameBlock.timerInStep (h : SameBlock s t) (ht : t.tmr = s.tmr) (hs : TimerInStep s) : TimerInStep t := by
  unfold TimerInStep
  rw [h.st, h.sleepMs, ht]
  exact hs

/-- The expiry of an armed timer leaves it expired in a waiting state. -/
theorem TimerInStep.tmrStep (hs : TimerInStep s) : TimerInStep (tmrStep s) := by
  rcases tmrStep_cases s with ⟨ms, harmed, ht⟩ | ⟨-, ht⟩ <;> rw [ht]
  · exact ⟨iff_of_true (hs.1.mpr (by simp [harmed])) nofun, fun _ => .inr rfl⟩
  · exact hs

theorem timerInStep_powerOn (c : Config) (n : Nat) (sched : List Action) : TimerInStep (State.powerOn c n sched) :=
  timerInStep_of_idle rfl rfl

/-- Every step of every agent keeps the timer in step. -/
theorem TimerInStep.step (hs : TimerInStep s) (h : step s = .next t) : TimerInStep t :=
  step_keeps (fun _ _ hp _ he => he.timerInStep hp) (fun _ _ _ hp _ => hp) (fun _ hp => hp.tmrStep)
    (fun _ w _ hp _ => (sameBlock_ctlWrite w _).timerInStep (ctlWrite_tmr w _) hp)
    (fun s hp => (sameBlock_ctlNext s).timerInStep (ctlNext_tmr s) hp)
    (fun s snap press order hp => (sameBlock_refEnvTick snap press order s).timerInStep (refEnvTick_tmr ..) hp)
    (fun _ _ hp => hp) (fun _ _ => timerInStep_powerOn _ _ _) hs h

/-- A `SEQ` step arms the timer in four states, in two of them from Expired; else it keeps the timer or leaves it Idle. -/
theorem SeqEffect.tmr_cases (h : SeqEffect s t) :
    t.tmr = s.tmr ∨ t.tmr = .idle ∨ (s.st = .initRstHigh ∨ s.st = .sleepArm) ∨
      (s.tmr = .expired ∧ (s.st = .initRstLow ∨ s.st = .initRstRelease)) := by
  cases h with
  | initRstHigh hst => exact .inr (.inr (.inl (.inl hst)))
  | sleepArm hst => exact .inr (.inr (.inl (.inr hst)))
  | initRstLow hst ht => exact .inr (.inr (.inr ⟨ht, .inl hst⟩))
  | initRstRelease hst ht => exact .inr (.inr (.inr ⟨ht, .inr hst⟩))
  | initIodirLo | sleepWait => exact .inr (.inl rfl)
  | _ => left; simp

/-- The two states that arm an Idle timer. -/
theorem TimerInStep.idle_of_arming (hs : TimerInStep s) (hst : s.st = .initRstHigh ∨ s.st = .sleepArm) : s.tmr = .idle :=
  hs.idle (by rcases hst with hst | hst <;> rw [hst] <;> rfl)

/-- No environment step arms the timer. -/
theorem tmrStep_tmr_cases (s : State) : (tmrStep s).tmr = s.tmr ∨ (tmrStep s).tmr = .expired := by
  rcases tmrStep_cases s with ⟨_, _, ht⟩ | ⟨_, ht⟩ <;> rw [ht]
  · exact .inr rfl
  · exact .inl rfl

/-- A timer found armed after a step was armed before it, or by one of the four arming operations. -/
theorem step_arms {ms : Nat} (hs : TimerInStep s) (h : step s = .next t) (ht : t.tmr = .armed ms) :
    t.tmr = s.tmr ∨ (s.tmr = .idle ∧ (s.st = .initRstHigh ∨ s.st = .sleepArm)) ∨
      (s.tmr = .expired ∧ (s.st = .initRstLow ∨ s.st = .initRstRelease)) := by
  rcases step_cases h with ⟨rest, -, -, he⟩ | ⟨-, -, rfl⟩ | ⟨rest, -, rfl⟩ | ⟨w, rest, -, rfl⟩ |
    ⟨snap, press, order, rest, -, rfl⟩ | ⟨rest, -, rfl⟩ | ⟨v, rest, -, rfl⟩ | ⟨rest, -, rfl⟩
  · rcases (exec_seqEffect (s := { s with sched := rest }) he).tmr_cases with hk | hidle | harm | hwait
    · exact .inl hk
    · cases ht.symm.trans hidle
    · exact .inr (.inl ⟨hs.idle_of_arming harm, harm⟩)
    · exact .inr (.inr hwait)
  · exact .inl ((tmrStep_tmr_cases s).resolve_right fun hx => by cases ht.symm.trans hx)
  · exact .inl ((tmrStep_tmr_cases { s with sched := rest }).resolve_right fun hx => by cases ht.symm.trans hx)
  · exact .inl (ctlWrite_tmr w _)
  · exact .inl (refEnvTick_tmr ..)
  · exact .inl (ctlNext_tmr _)
  · exact .inl rfl
  · cases ht

/-- A scheduled `TMR` step expires an armed timer and changes nothing else; on another timer it changes nothing. -/
theorem step_tmr_effect (hs : s.sched = .tmr :: rest) :
    (∀ ms, s.tmr = .armed ms → step s = .next { s with sched := rest, tmr := .expired }) ∧
      (s.tmr = .idle ∨ s.tmr = .expired → step s = .next { s with sched := rest }) := by
  rw [step_tmr hs]
  rcases tmrStep_cases { s with sched := rest } with ⟨ms, harmed, ht⟩ | ⟨hnot, ht⟩ <;> rw [ht]
  · exact ⟨fun _ _ => rfl, fun h => by rcases h with h | h <;> cases harmed.symm.trans h⟩
  · refine ⟨fun ms h => ?_, fun _ => rfl⟩
    have harmed : Timer.isArmed s.tmr = true := by rw [h]; rfl
    cases hnot.symm.trans harmed

/-- Settles O33, clause by clause: the invariant, who arms the timer, from Idle, and the `TMR` step. -/
theorem timerStaysInStep : Obligations.TimerStaysInStep :=
  ⟨fun _ _ hs h => hs.step h, fun _ _ _ => step_arms, fun _ hs => hs.idle_of_arming, fun _ _ => step_tmr_effect⟩

end Sys2Proof.Machine
end

section
/-! The proofs of the statements about the control inputs (10_state.md section 3, 60_exceptions.md section 4): the contract's bounds
(R151) and the widths (R24, R25, R32), a CTL step's one write, and which action `REF_ENV` honours (R154, R160). -/

namespace Sys2Proof.Machine

variable {s t : State} {w : CtlWrite} {rest : List Action} {snap : Vector Bool 5} {press : Bool} {order : ResetOrder}

/-! ### One CTL step, one write (60_exceptions.md R151, R160) -/

/-- Settles O46: a scheduled write is `ctlWrite`, one field each. -/
theorem ctlStepWritesOneInputWhole : Obligations.CtlStepWritesOneInputWhole := fun _ _ =>
  ⟨fun _ => step_ctl, fun _ => step_ctl, fun _ => step_ctl⟩

/-- While an invocation is at its writes the timer source does not fire (R160). -/
theorem refEnvTick_pending (hp : s.pending ≠ []) : refEnvTick snap press order s = s := by
  obtain ⟨w, ws, hw⟩ := List.exists_cons_of_ne_nil hp
  unfold refEnvTick
  rw [hw]

/-- Settles O59: the tick is `refEnvTick`, which does nothing while a write is pending. -/
theorem refEnvIsNotReentrant : Obligations.RefEnvIsNotReentrant := by
  intro s snap press order rest hp hs
  rw [step_tick hs, refEnvTick_pending (s := { s with sched := rest }) hp]

/-! ### The inputs keep the contract (60_exceptions.md R151, R155 to R159) -/

/-- A write that meets the contract leaves the inputs within it: the value fits its width, so it is written as it is. -/
theorem InputsInContract.ctlWrite (hs : InputsInContract s) (hw : w.meets s.cfg = true) :
    InputsInContract (ctlWrite w s) := by
  obtain ⟨hwf, hten, hdir, hduty, hperiod, hsched, hpending⟩ := hs
  obtain ⟨⟨-, hwrap⟩, ⟨-, hmax⟩, -⟩ := (Config.wf_iff s.cfg).mp hwf
  cases w with
  | dir c => exact ⟨hwf, hten, hw, hduty, hperiod, hsched, hpending⟩
  | duty d =>
    have hd : 5 ≤ d ∧ d ≤ s.cfg.wrapMax := by simpa [CtlWrite.meets] using hw
    rw [ctlWrite_duty (hd.2.trans_lt hwrap)]
    exact ⟨hwf, hten, hdir, hw, hperiod, hsched, hpending⟩
  | period p =>
    have hp : s.cfg.msMin ≤ p ∧ p ≤ s.cfg.msMax := by simpa [CtlWrite.meets] using hw
    rw [ctlWrite_period (hp.2.trans_lt hmax)]
    exact ⟨hwf, hten, hdir, hduty, hw, hsched, hpending⟩

theorem InputsInContract.pop {a : Action} (hs : InputsInContract s) (hsched : s.sched = a :: rest) :
    InputsInContract { s with sched := rest } := by
  obtain ⟨hwf, hten, hdir, hduty, hperiod, hall, hpending⟩ := hs
  exact ⟨hwf, hten, hdir, hduty, hperiod, fun b hb => hall b (hsched ▸ List.mem_cons_of_mem a hb), hpending⟩

theorem InputsInContract.withPending {ws : List CtlWrite} (hs : InputsInContract s) (hws : ∀ w ∈ ws, w.meets s.cfg = true)
    (acc : Nat) : InputsInContract { s with pending := ws, acc := acc } := by
  obtain ⟨hwf, hten, hdir, hduty, hperiod, hsched, -⟩ := hs
  exact ⟨hwf, hten, hdir, hduty, hperiod, hsched, hws⟩

theorem InputsInContract.ctlNext (hs : InputsInContract s) : InputsInContract (ctlNext s) := by
  have ⟨_, _, _, _, _, _, hpending⟩ := hs
  unfold Machine.ctlNext
  split
  · exact hs
  · next w ws hw =>
    rw [hw] at hpending
    exact (hs.withPending (fun v hv => hpending v (List.mem_cons_of_mem w hv)) s.acc).ctlWrite
      (hpending w List.mem_cons_self)

/-- The clamped period meets the contract, whatever the accumulator (R155). -/
theorem adjustedPeriod_meets (hwf : s.cfg.wf = true) (delta : Int) :
    (CtlWrite.period (adjustedPeriod s delta)).meets s.cfg = true := by
  obtain ⟨-, ⟨hle, -⟩, -⟩ := (Config.wf_iff s.cfg).mp hwf
  obtain ⟨-, hmin, hmax⟩ := clampInt_toNat hle (s.period + delta)
  simp [CtlWrite.meets, adjustedPeriod, hmin, hmax]

/-- The clamped duty meets the contract, whatever the accumulator (R156). -/
theorem adjustedDuty_meets (hwf : s.cfg.wf = true) (delta : Int) :
    (CtlWrite.duty (adjustedDuty s delta)).meets s.cfg = true := by
  obtain ⟨⟨hle, -⟩, -⟩ := (Config.wf_iff s.cfg).mp hwf
  obtain ⟨-, hmin, hmax⟩ := clampInt_toNat (lo := minDuty) hle (s.duty + delta)
  have hmin' : 5 ≤ (clampInt minDuty s.cfg.wrapMax (s.duty + delta)).toNat := hmin
  simp [CtlWrite.meets, adjustedDuty, hmin', hmax]

/-- Half of a `WRAP_MAX` of at least 10 is a duty of the contract, and the default period is a period of it (R152, R157). -/
theorem default_inputs_meet {c : Config} (hwf : c.wf = true) (hten : 10 ≤ c.wrapMax) :
    (CtlWrite.duty (c.wrapMax / 2)).meets c = true ∧ (CtlWrite.period c.defaultPeriodMs).meets c = true := by
  obtain ⟨-, -, ⟨hmin, hmax⟩, -⟩ := (Config.wf_iff c).mp hwf
  have hhalf : 5 ≤ c.wrapMax / 2 ∧ c.wrapMax / 2 ≤ c.wrapMax := by omega
  simp [CtlWrite.meets, hhalf, hmin, hmax]

/-- The three writes of the mode/reset action meet the contract, in every order (R157). -/
theorem resetWrites_meet (order : ResetOrder) (hs : InputsInContract s) :
    ∀ w ∈ resetWrites order s, w.meets s.cfg = true := by
  obtain ⟨hwf, hten, hdir, -⟩ := hs
  obtain ⟨hduty, hperiod⟩ := default_inputs_meet hwf hten
  have hnext : (CtlWrite.dir (nextDirCode s.dir)).meets s.cfg = true :=
    decide_eq_true (nextDirCode_legal (of_decide_eq_true hdir))
  cases order <;> simp [resetWrites, hduty, hperiod, hnext]

theorem InputsInContract.refEnvTick (hs : InputsInContract s) (snap : Vector Bool 5) (press : Bool) (order : ResetOrder) :
    InputsInContract (refEnvTick snap press order s) := by
  have ⟨hwf, _, _, _, _, _, hpending⟩ := hs
  obtain ⟨ws, n, htick, hws⟩ := refEnvTick_cases snap press order s
  rw [htick]
  refine hs.withPending ?_ n
  rcases hws with rfl | rfl | ⟨d, rfl⟩ | ⟨d, rfl⟩ | rfl
  · exact hpending
  · exact List.forall_mem_nil _
  · exact List.forall_mem_singleton.mpr (adjustedPeriod_meets hwf d)
  · exact List.forall_mem_singleton.mpr (adjustedDuty_meets hwf d)
  · exact resetWrites_meet order hs

theorem InputsInContract.tmrStep (hs : InputsInContract s) : InputsInContract (tmrStep s) := by
  rcases tmrStep_cases s with ⟨ms, -, ht⟩ | ⟨-, ht⟩ <;> rw [ht] <;> exact hs

theorem SeqEffect.inputsInContract (h : SeqEffect s t) (hs : InputsInContract s) : InputsInContract t := by
  obtain ⟨hcfg, hdir, hduty, hperiod, -, hpend, hsched⟩ := h.keepsEnvironment
  unfold InputsInContract ContractSchedule
  rw [hcfg, hdir, hduty, hperiod, hpend, hsched]
  exact hs

theorem inputsInContract_powerOn {c : Config} (hwf : c.wf = true) (hten : 10 ≤ c.wrapMax) (n : Nat) {sched : List Action}
    (hsched : ∀ a ∈ sched, a.meets c = true) : InputsInContract (State.powerOn c n sched) := by
  obtain ⟨hduty, hperiod⟩ := default_inputs_meet hwf hten
  exact ⟨hwf, hten, rfl, hduty, hperiod, hsched, List.forall_mem_nil _⟩

/-- Every step of every agent keeps the inputs within the contract. -/
theorem InputsInContract.step (hs : InputsInContract s) (h : step s = .next t) : InputsInContract t := by
  refine step_keeps (fun _ _ hs _ he => he.inputsInContract hs) (fun _ _ _ hs hpop => hs.pop hpop) (fun _ hs => hs.tmrStep)
    (fun s w rest hs hpop => ?_) (fun _ hs => hs.ctlNext) (fun _ snap press order hs => hs.refEnvTick snap press order)
    (fun _ _ hs => hs) (fun s hs => ?_) hs h
  · have ⟨_, _, _, _, _, hsched, _⟩ := hs
    have hw : w.meets s.cfg = true := hsched (.ctl w) (hpop ▸ List.mem_cons_self)
    exact (hs.pop hpop).ctlWrite hw
  · obtain ⟨hwf, hten, -, -, -, hsched, -⟩ := hs
    exact inputsInContract_powerOn hwf hten s.draws hsched

/-! ### Every value keeps its width (10_state.md R24, R25, R32) -/

/-- A level is 0 or the duty. -/
theorem levelFor_le (x : Tern) (d : Nat) : levelFor x d ≤ d := by
  unfold levelFor
  split <;> omega

/-- PWM_SET writes at most the duty, SLEEP_ARM the period; the block writes no other value of those widths. -/
theorem SeqEffect.valuesFit (h : SeqEffect s t) (hs : ValuesFit s) : ValuesFit t := by
  have ⟨hwf, hduty, hperiod, hsleep, hlevel⟩ := hs
  cases h with
  | sleepArm => exact ⟨hwf, hduty, hperiod, hperiod, hlevel⟩
  | pwmSet _ hp =>
    have hwritten : levelFor s.row[s.ph.toNat] s.duty < 2 ^ s.cfg.dutyW := (levelFor_le _ _).trans_lt hduty
    refine ⟨by simpa using hwf, by simpa using hduty, by simpa using hperiod, by simpa using hsleep, fun k => ?_⟩
    by_cases hk : s.ph.toNat = k.val
    · simpa [hk] using hwritten
    · simpa [Vector.getElem_set_ne, hk] using hlevel k
  | _ => exact hs

theorem SameBlock.valuesFit (h : SameBlock s t) (hduty : t.duty < 2 ^ s.cfg.dutyW) (hperiod : t.period < 2 ^ s.cfg.periodW)
    (hs : ValuesFit s) : ValuesFit t := by
  obtain ⟨hwf, -, -, hsleep, hlevel⟩ := hs
  unfold ValuesFit
  rw [h.cfg, h.sleepMs, h.level]
  exact ⟨hwf, hduty, hperiod, hsleep, hlevel⟩

theorem ValuesFit.ctlWrite (hs : ValuesFit s) (w : CtlWrite) : ValuesFit (ctlWrite w s) := by
  have ⟨_, hduty, hperiod, _⟩ := hs
  obtain ⟨hduty', hperiod'⟩ := ctlWrite_fits w hduty hperiod
  exact (sameBlock_ctlWrite w s).valuesFit hduty' hperiod' hs

theorem ValuesFit.ctlNext (hs : ValuesFit s) : ValuesFit (ctlNext s) := by
  unfold Machine.ctlNext
  split
  · exact hs
  · next w ws _ => exact ValuesFit.ctlWrite (s := { s with pending := ws }) hs w

theorem ValuesFit.refEnvTick (hs : ValuesFit s) (snap : Vector Bool 5) (press : Bool) (order : ResetOrder) :
    ValuesFit (refEnvTick snap press order s) := by
  obtain ⟨ws, n, htick, -⟩ := refEnvTick_cases snap press order s
  rw [htick]
  exact hs

theorem ValuesFit.tmrStep (hs : ValuesFit s) : ValuesFit (tmrStep s) := by
  rcases tmrStep_cases s with ⟨ms, -, ht⟩ | ⟨-, ht⟩ <;> rw [ht] <;> exact hs

theorem valuesFit_powerOn {c : Config} (hwf : c.wf = true) (n : Nat) (sched : List Action) :
    ValuesFit (State.powerOn c n sched) := by
  obtain ⟨⟨-, hwrap⟩, ⟨-, hmax⟩, ⟨-, hdefault⟩, -⟩ := (Config.wf_iff c).mp hwf
  refine ⟨hwf, (Nat.div_le_self _ _).trans_lt hwrap, hdefault.trans_lt hmax, Nat.two_pow_pos _, fun k => ?_⟩
  simp [State.powerOn, Nat.mod_lt]

theorem ValuesFit.step (hs : ValuesFit s) (h : step s = .next t) : ValuesFit t :=
  step_keeps (fun _ _ hs _ he => he.valuesFit hs) (fun _ _ _ hs _ => hs) (fun _ hs => hs.tmrStep)
    (fun s w rest hs _ => ValuesFit.ctlWrite (s := { s with sched := rest }) hs w) (fun _ hs => hs.ctlNext)
    (fun _ snap press order hs => hs.refEnvTick snap press order) (fun _ _ hs => hs)
    (fun s hs => valuesFit_powerOn hs.1 s.draws s.sched) hs h

/-- Settles O60: both invariants by `step_keeps`, agent by agent. -/
theorem inputsStayInContract : Obligations.InputsStayInContract :=
  ⟨fun _ _ hs h => hs.step h, fun _ _ hs h => hs.step h⟩

/-! ### The action honoured (60_exceptions.md R154) -/

/-- An action is asked for exactly when an active line asks for it. -/
theorem mem_requested {c : Config} {a : BtnAction} :
    a ∈ requested c snap ↔ ∃ k : Fin 5, snap[k] = true ∧ c.btnMap[k] = a := by
  simp [requested]

/-- `BTN_PRIO` lists every action, and none twice (00_scope.md R10). -/
theorem btnPrio_complete {c : Config} (hwf : c.wf = true) : (∀ a, a ∈ c.btnPrio) ∧ c.btnPrio.Nodup := by
  obtain ⟨-, -, -, -, hperm⟩ := (Config.wf_iff c).mp hwf
  exact ⟨fun a => hperm.mem_iff.mpr (by cases a <;> decide), hperm.nodup_iff.mpr (by decide)⟩

/-- In a list without repeats a is the first match exactly when it matches and nothing before it does, in whatever way the list is split
at a. -/
theorem find?_eq_some_iff_of_nodup {α : Type} {p : α → Bool} {l : List α} {a : α} (hnd : l.Nodup) (ha : a ∈ l) :
    l.find? p = some a ↔ p a = true ∧ ∀ pre post, l = pre ++ a :: post → ∀ b ∈ pre, ¬ p b = true := by
  constructor
  · refine fun hfind => ⟨List.find?_some hfind, ?_⟩
    rintro pre post rfl b hb hpb
    obtain ⟨x, hx⟩ := Option.isSome_iff_exists.mp (List.find?_isSome.mpr ⟨b, hb, hpb⟩)
    rw [List.find?_append, hx, Option.some_or] at hfind
    obtain rfl := Option.some.inj hfind
    exact (List.nodup_append.mp hnd).2.2 x (List.mem_of_find?_eq_some hx) x List.mem_cons_self rfl
  · rintro ⟨hpa, hpre⟩
    obtain ⟨pre, post, hl⟩ := List.append_of_mem ha
    exact List.find?_eq_some_iff_append.mpr ⟨hpa, pre, post, hl, fun b hb => by simpa using hpre pre post hl b hb⟩

/-- Settles O54: `honoured` is a search of `BTN_PRIO` for a requested action. -/
theorem oneActionIsHonouredByPriority : Obligations.OneActionIsHonouredByPriority := by
  intro c snap a hwf
  obtain ⟨hall, hnd⟩ := btnPrio_complete hwf
  have hasked (b : BtnAction) : (requested c snap).contains b = true ↔ ∃ k : Fin 5, snap[k] = true ∧ c.btnMap[k] = b :=
    List.contains_iff_mem.trans mem_requested
  unfold honoured
  rw [find?_eq_some_iff_of_nodup hnd (hall a)]
  simp only [hasked, not_exists, not_and, ne_eq]

end Sys2Proof.Machine
end

section
/-! The proofs of the statements about the rows of the opcode table (30_encoding.md sections 1 and 2, 43_sequencer.md section 1): a step
of the block runs the instruction its code decodes to, what the frame rows and the arms of ADVANCE do by themselves, and what no
instruction writes. -/

namespace Sys2Proof.Machine

variable {s t : State} {rest : List Action}

/-! ### A step of the block (43_sequencer.md R121) -/

theorem step_seq (hs : s.sched = .seq :: rest) : step s = seqStep { s with sched := rest } := by
  unfold step
  rw [hs]

/-- With nothing scheduled the block steps, unless it holds on an armed timer (log entry 5). -/
theorem step_unscheduled (hs : s.sched = []) (hh : holdsOnTimer s = false) : step s = seqStep s := by
  unfold step
  rw [hs]
  exact if_neg (by simp [hh])

/-- With nothing scheduled a timer the block holds on expires (log entry 5). -/
theorem step_expires {ms : Nat} (hf : s.fault = none) (hw : waitsForTimer s.st = true) (hs : s.sched = [])
    (ht : s.tmr = .armed ms) : step s = .next { s with tmr := .expired } := by
  have hh : holdsOnTimer s = true := by simp [holdsOnTimer, hf, hw, ht, Timer.isArmed]
  unfold step tmrStep
  rw [hs, ht]
  exact if_pos hh

/-- The block does not hold on its timer in a state that does not wait, or where the timer has expired. -/
theorem holdsOnTimer_eq_false (h : waitsForTimer s.st = true → s.tmr = .expired) : holdsOnTimer s = false := by
  unfold holdsOnTimer
  cases hw : waitsForTimer s.st with
  | false => simp
  | true => simp [h hw, Timer.isArmed]

/-- Settles O7: `ST` decodes to the micro-operation of its state, which is what `seqStep` runs. -/
theorem stepRunsDecodedInstruction : Obligations.StepRunsDecodedInstruction := by
  refine ⟨fun s i hf hi => ?_, fun s ms => step_expires, fun s f hf hs => ?_⟩
  · cases (decode_state s.cfg.bus s.st).symm.trans hi
    exact ⟨fun hs hh => (step_unscheduled hs hh).trans (seqStep_alive hf),
      fun rest hs => (step_seq hs).trans (seqStep_alive (s := { s with sched := rest }) hf)⟩
  · have hh : holdsOnTimer s = false := by simp [holdsOnTimer, hf]
    exact (step_unscheduled hs hh).trans (seqStep_faulted hf)

/-! ### The arms of ADVANCE (43_sequencer.md R122, 30_encoding.md R64) -/

/-- An arm moves the index by its direction. -/
theorem exec_dir (d : Dir) (s : State) : exec d.instr s = .next (s.moveIdx d) := by
  cases d <;> rfl

/-- Moving the index writes nothing else. -/
theorem moveIdx_frame (d : Dir) (s : State) :
    (s.moveIdx d).st = s.st ∧ (s.moveIdx d).trace = s.trace ∧ (s.moveIdx d).fault = s.fault ∧
      KeepsEnvironment s (s.moveIdx d) ∧ KeepsRow s (s.moveIdx d) ∧ KeepsPorts s (s.moveIdx d) ∧
      KeepsLines s (s.moveIdx d) ∧ KeepsTimer s (s.moveIdx d) ∧ KeepsExpander s (s.moveIdx d) ∧
      KeepsLevels s (s.moveIdx d) := by
  obtain ⟨henv, hrow, hports, hdev, hlevels⟩ := sequencer_frame s s.st (nextIndex d s.idx) s.hb s.sleepMs s.tmr s.trace rfl
  exact ⟨rfl, rfl, rfl, henv, hrow, hports, ⟨rfl, rfl⟩, ⟨rfl, rfl⟩, hdev, hlevels⟩

/-- Settles O24: each arm is `moveIdx`, and Stopped moves the index nowhere. -/
theorem directionArmsMoveTheIndex : Obligations.DirectionArmsMoveTheIndex := fun s =>
  ⟨⟨_, exec_dir .forward s, nextIndex_forward s.idx, moveIdx_frame .forward s⟩,
    ⟨_, exec_dir .reverse s, nextIndex_reverse_int s.idx, moveIdx_frame .reverse s⟩, exec_dir .stopped s⟩

/-! ### The frame rows (30_encoding.md R68) -/

section
variable (s : State) (data : Byte)

theorem exec_wrdirLo : exec .wrdirLo s = .next (s.busWrite s.cfg.bus.regDirLo s.cfg.bus.dirAllOut) := rfl
theorem exec_wrdirHi : exec .wrdirHi s = .next (s.busWrite s.cfg.bus.regDirHi s.cfg.bus.dirAllOut) := rfl
theorem exec_wrportLo : exec (.wrportLo data) s = .next (s.busWrite s.cfg.bus.regPortLo data) := rfl
theorem exec_wrportHi : exec (.wrportHi data) s = .next (s.busWrite s.cfg.bus.regPortHi data) := rfl
theorem exec_rdportLo : exec .rdportLo s = .next (s.busRead s.cfg.bus.regPortLo) := rfl
theorem exec_rdportHi : exec .rdportHi s = .next (s.busRead s.cfg.bus.regPortHi) := rfl

end

/-- A write frame by itself: one transaction, and nothing else of the block moves. -/
theorem busWrite_alone (s : State) (reg data : Byte) :
    FrameWritten reg data s (s.busWrite reg data) ∧ (s.busWrite reg data).st = s.st ∧
      (s.busWrite reg data).tmr = s.tmr ∧ KeepsRegisters s (s.busWrite reg data) :=
  ⟨frameWritten_busWrite s reg data, rfl, rfl, keepsRegisters_busWrite s reg data⟩

/-- A read frame by itself. -/
theorem busRead_alone (s : State) (reg : Byte) :
    FrameRead reg (readReply s).r2 [] s (s.busRead reg) ∧ (s.busRead reg).st = s.st ∧ (s.busRead reg).tmr = s.tmr ∧
      KeepsRegisters s (s.busRead reg) :=
  ⟨frameRead_busRead s reg, rfl, rfl, keepsRegisters_busRead s reg⟩

/-- Settles O22: each row is one write frame or one read frame. -/
theorem frameRowsAreOneBusTransaction : Obligations.FrameRowsAreOneBusTransaction := fun s =>
  ⟨⟨_, exec_wrdirLo s, busWrite_alone s _ _⟩, ⟨_, exec_wrdirHi s, busWrite_alone s _ _⟩,
    fun data => ⟨_, exec_wrportLo s data, busWrite_alone s _ data⟩,
    fun data => ⟨_, exec_wrportHi s data, busWrite_alone s _ data⟩, ⟨_, _, exec_rdportLo s, busRead_alone s _⟩,
    _, _, exec_rdportHi s, busRead_alone s _⟩

/-- Settles O9: each micro-operation is its row and the move to the next state. -/
theorem microOperationsIssueTheirFramesAndArms : Obligations.MicroOperationsIssueTheirFramesAndArms := by
  refine fun s t => ⟨fun ht h => ?_, fun h => ?_, fun h => ?_, fun h => ?_, fun h => ?_, fun h => ?_, fun d hd h => ?_⟩
  · cases (exec_wrdirLo s.disarm).symm.trans h
    exact exec_initIodirLo ht
  · cases (exec_wrdirHi s).symm.trans h
    exact exec_initIodirHi
  · cases (exec_wrportLo s s.portLo).symm.trans h
    exact exec_wrLo
  · cases (exec_wrportHi s s.portHi).symm.trans h
    exact exec_wrHi
  · cases (exec_rdportLo s).symm.trans h
    exact exec_rdLo
  · cases (exec_rdportHi s).symm.trans h
    exact exec_rdHi
  · cases (exec_dir d s).symm.trans h
    exact exec_advance hd

/-! ### A placed word runs next (log entry 20) -/

/-- A 4-bit table word is the code of a state and decodes to its micro-operation. -/
theorem decodeTableWord_state {w : Nat} {i : Instr} (h : decodeTableWord 4 w = some i) :
    ∃ st : FsmState, i = st.instr ∧ Code.ofTableWord 4 w = some (.st st.code) := by
  by_cases hw : w < 16
  · have hcode : Code.ofTableWord 4 w = some (.st (FsmState.ofCode (BitVec.ofNat 4 w)).code) := by
      simp [Code.ofTableWord, hw, FsmState.code_ofCode]
    rw [decodeTableWord, hcode] at h
    simp only [decode_state, Option.some.injEq] at h
    exact ⟨_, h.symm, hcode⟩
  · simp [decodeTableWord, Code.ofTableWord, hw] at h

/-- A 2-bit table word that decodes is the code of a direction and decodes to its arm. -/
theorem decodeTableWord_dir {w : Nat} {i : Instr} (h : decodeTableWord 2 w = some i) :
    ∃ d : Dir, i = d.instr ∧ Code.ofTableWord 2 w = some (.dir d.code) := by
  by_cases hw : w < 4
  · have hcode : Code.ofTableWord 2 w = some (.dir (BitVec.ofNat 2 w)) := by simp [Code.ofTableWord, hw]
    rw [decodeTableWord, hcode] at h
    cases hd : decode BusConfig.default (.dir (BitVec.ofNat 2 w)) with
    | error e => simp [hd] at h
    | ok j =>
      obtain ⟨d, hdw, rfl⟩ := decode_dir_cases hd
      simp only [hd, Option.some.injEq] at h
      exact ⟨d, h.symm, hdw ▸ hcode⟩
  · simp [decodeTableWord, Code.ofTableWord, hw] at h

/-- The step after a state is placed runs its micro-operation. -/
theorem step_placeState (st : FsmState) (s : State) : step (placeState st s) = exec st.instr (placeState st s) := by
  have hh : holdsOnTimer (placeState st s) = false := holdsOnTimer_eq_false fun hw => if_pos hw
  exact (step_unscheduled rfl hh).trans (seqStep_alive rfl)

/-- Settles O8: a state code places its state, a direction code ADVANCE with that direction. -/
theorem placedWordRunsNext : Obligations.PlacedWordRunsNext := by
  refine fun s w i => ⟨fun h => ?_, fun h => ?_⟩
  · obtain ⟨st, rfl, hcode⟩ := decodeTableWord_state h
    have hplace : s.withFetchWord 4 w = placeState st s := by
      simp [State.withFetchWord, hcode, placeCode]
    rw [hplace, step_placeState]
  · obtain ⟨d, rfl, hcode⟩ := decodeTableWord_dir h
    have hplace : s.withFetchWord 2 w = placeState .advance { s with dir := d.code } := by
      simp [State.withFetchWord, hcode, placeCode]
    rw [hplace]
    exact ⟨_, exec_dir d _, (step_placeState _ _).trans (exec_advance rfl)⟩

/-! ### What no instruction writes (10_state.md R35, 60_exceptions.md R161) -/

/-- A waiting micro-operation leaves the environment alone, whether it holds or goes on. -/
theorem exec_waiting_keepsEnvironment {st : FsmState} (hw : waitsForTimer st = true) (s : State) :
    ∃ t, exec st.instr s = .next t ∧ KeepsEnvironment s t := by
  by_cases ht : s.tmr = .expired
  · cases st with
    | initRstLow => exact ⟨_, exec_initRstLow ht, rfl, rfl, rfl, rfl, rfl, rfl, rfl⟩
    | initRstRelease => exact ⟨_, exec_initRstRelease ht, rfl, rfl, rfl, rfl, rfl, rfl, rfl⟩
    | initIodirLo => exact ⟨_, exec_initIodirLo ht, rfl, rfl, rfl, rfl, rfl, rfl, rfl⟩
    | sleepWait => exact ⟨_, exec_sleepWait ht, rfl, rfl, rfl, rfl, rfl, rfl, rfl⟩
    | _ => cases hw
  · exact ⟨s, exec_hold hw ht, rfl, rfl, rfl, rfl, rfl, rfl, rfl⟩

/-- Every instruction answers next and leaves the environment alone. -/
theorem exec_keepsEnvironment (i : Instr) (s : State) : ∃ t, exec i s = .next t ∧ KeepsEnvironment s t := by
  cases i with
  | lookup =>
    by_cases hi : s.idx.toNat < 20
    · exact ⟨_, exec_lookup hi, rfl, rfl, rfl, rfl, rfl, rfl, rfl⟩
    · exact ⟨_, exec_lookup_fault (by omega), rfl, rfl, rfl, rfl, rfl, rfl, rfl⟩
  | pwmSet =>
    by_cases hp : s.ph.toNat < 5
    · obtain ⟨-, -, -, henv, -⟩ := State.nextPhase_frame
        (s.pwmWrite ⟨s.ph.toNat, hp⟩ (levelFor s.row[s.ph.toNat] s.duty))
      exact ⟨_, exec_pwmSet hp, henv⟩
    · exact ⟨_, exec_pwmSet_fault hp, rfl, rfl, rfl, rfl, rfl, rfl, rfl⟩
  | advance =>
    rcases exec_advance_cases s with ⟨d, -, he⟩ | ⟨-, he⟩ <;> exact ⟨_, he, rfl, rfl, rfl, rfl, rfl, rfl, rfl⟩
  | initRstLow => exact exec_waiting_keepsEnvironment (st := .initRstLow) rfl s
  | initRstRelease => exact exec_waiting_keepsEnvironment (st := .initRstRelease) rfl s
  | initIodirLo => exact exec_waiting_keepsEnvironment (st := .initIodirLo) rfl s
  | sleepWait => exact exec_waiting_keepsEnvironment (st := .sleepWait) rfl s
  | _ => exact ⟨_, rfl, rfl, rfl, rfl, rfl, rfl, rfl, rfl⟩

/-- Settles O45: every instruction's one outcome is that of `exec_keepsEnvironment`. -/
theorem blockNeverWritesItsInputs : Obligations.BlockNeverWritesItsInputs := by
  intro i s t h
  obtain ⟨u, hu, henv⟩ := exec_keepsEnvironment i s
  cases hu.symm.trans h
  exact henv

end Sys2Proof.Machine
end

section
/-! The proof of the statement about reset and the invariants (70_reset_and_hazards.md R180, R183). -/

namespace Sys2Proof.Machine

/-- Settles O32: each invariant holds of every power-on state. -/
theorem resetMeetsTheInvariants : Obligations.ResetMeetsTheInvariants :=
  ⟨⟨rfl, faultFree_powerOn 0 nofun, timerInStep_powerOn _ _ _, rfl, driveFollowsIndex_powerOn _ _ _,
      linesAreOutputs_powerOn _ _ _, portsReachExpander_powerOn _ _ _, offPhasesAreOff_powerOn _ _ _,
      undrivenBitsClear_powerOn _ _ _, nofun, startupOrder_powerOn _ _ _, Memory.wf_nil,
      valuesFit_powerOn Config.site_wf 0 [], fun hten => inputsInContract_powerOn Config.site_wf hten 0 nofun⟩,
    fun _ _ => step_powerCycle⟩

end Sys2Proof.Machine
end

section
/-! The proofs of the statements about runs (44_startup.md, 43_sequencer.md, 41_pwm_mapper.md, 20_memory.md section 3): the start-up, one
whole iteration, and a duty that changes between two phases. An iteration is cut into the drive of the levels, the port frames and the
pacing; each part ends in a state given by name, and the parts are put together by `runSteps_add`. -/

namespace Sys2Proof.Machine

variable {s t : State}

/-! ### Runs with nothing scheduled -/

theorem runSteps_add {m : Nat} (h : runSteps m s = .next t) (n : Nat) : runSteps (m + n) s = runSteps n t := by
  induction m generalizing s with
  | zero =>
    cases h
    rw [Nat.zero_add]
  | succ m ih =>
    rw [Nat.add_right_comm]
    cases hstep : step s with
    | next u => exact (runSteps_succ hstep _).trans (ih ((runSteps_succ hstep m).symm.trans h))
    | fault f => simp [runSteps, hstep] at h
    | refused r => simp [runSteps, hstep] at h

/-- With nothing scheduled a live block takes the step of its state, unless it waits, and the run goes on from there. -/
theorem runSteps_block {n : Nat} {o : Host.Outcome State Fault Refusal} (hw : waitsForTimer s.st = false) (hf : s.fault = none)
    (hs : s.sched = []) (he : exec s.st.instr s = .next t) (hrest : runSteps n t = o) : runSteps (n + 1) s = o := by
  have hh : holdsOnTimer s = false := holdsOnTimer_eq_false fun h => by rw [hw] at h; cases h
  exact (runSteps_succ (((step_unscheduled hs hh).trans (seqStep_alive hf)).trans he) n).trans hrest

/-- With nothing scheduled a live block that waits on an armed timer takes two steps: the expiry, and the step of its state. -/
theorem runSteps_wait {n ms : Nat} {o : Host.Outcome State Fault Refusal} (hw : waitsForTimer s.st = true)
    (hf : s.fault = none) (hs : s.sched = []) (ht : s.tmr = .armed ms)
    (he : exec s.st.instr { s with tmr := .expired } = .next t) (hrest : runSteps n t = o) : runSteps (n + 2) s = o := by
  have hh : holdsOnTimer { s with tmr := .expired } = false := holdsOnTimer_eq_false fun _ => rfl
  have hstep : step { s with tmr := .expired } = .next t :=
    ((step_unscheduled (s := { s with tmr := .expired }) hs hh).trans (seqStep_alive hf)).trans he
  exact (runSteps_succ (step_expires hf hw hs ht) (n + 1)).trans ((runSteps_succ hstep n).trans hrest)

/-! ### The start-up (44_startup.md R131 to R137) -/

/-- Settles O50: the five start-up states, three of them each after an expiry. -/
theorem startupRun : Obligations.StartupRun := by
  intro c n
  have hrun : runSteps 8 (State.powerOn c n []) = .next _ :=
    runSteps_block rfl rfl rfl exec_initRstHigh <|
    runSteps_wait rfl rfl rfl rfl (exec_initRstLow rfl) <|
    runSteps_wait rfl rfl rfl rfl (exec_initRstRelease rfl) <|
    runSteps_wait rfl rfl rfl rfl (exec_initIodirLo rfl) <|
    runSteps_block rfl rfl rfl exec_initIodirHi rfl
  exact ⟨_, _, _, hrun, rfl, rfl, rfl, rfl, rfl, rfl, fun _ => rfl, rfl⟩

/-! ### The five PWM_SETs of an iteration (41_pwm_mapper.md R90) -/

/-- s after PWM_SET at phase k. -/
def afterPhase (k : Fin 5) (s : State) : State :=
  { s with
    st := if k.val = 4 then .compose else .pwmSet
    ph := if k.val = 4 then 4 else BitVec.ofNat 3 (k.val + 1)
    level := s.level.set k (levelFor s.row[k] s.duty)
    trace := s.trace ++ [.pwm k (levelFor s.row[k] s.duty)] }

section
variable (k : Fin 5) (s : State)

@[simp] theorem afterPhase_cfg : (afterPhase k s).cfg = s.cfg := rfl
@[simp] theorem afterPhase_idx : (afterPhase k s).idx = s.idx := rfl
@[simp] theorem afterPhase_row : (afterPhase k s).row = s.row := rfl
@[simp] theorem afterPhase_hb : (afterPhase k s).hb = s.hb := rfl
@[simp] theorem afterPhase_fault : (afterPhase k s).fault = s.fault := rfl
@[simp] theorem afterPhase_dir : (afterPhase k s).dir = s.dir := rfl
@[simp] theorem afterPhase_duty : (afterPhase k s).duty = s.duty := rfl
@[simp] theorem afterPhase_period : (afterPhase k s).period = s.period := rfl
@[simp] theorem afterPhase_level : (afterPhase k s).level = s.level.set k (levelFor s.row[k] s.duty) := rfl
@[simp] theorem afterPhase_trace : (afterPhase k s).trace = s.trace ++ [.pwm k (levelFor s.row[k] s.duty)] := rfl
@[simp] theorem afterPhase_sched : (afterPhase k s).sched = s.sched := rfl

end

theorem exec_pwmSet_at {k : Fin 5} (hk : s.ph = BitVec.ofNat 3 k.val) : exec .pwmSet s = .next (afterPhase k s) := by
  have hnat : s.ph.toNat = k.val := by rw [hk]; simp; omega
  have hp : s.ph.toNat < 5 := hnat ▸ k.isLt
  have hfin : ⟨s.ph.toNat, hp⟩ = k := Fin.ext hnat
  have hlast : s.ph = 4 ↔ k.val = 4 := by rw [← hnat]; exact BitVec.toNat_inj.symm
  have hnext : BitVec.ofNat 3 (k.val + 1) = s.ph + 1 := by rw [hk]; simp [BitVec.ofNat_add]
  rw [exec_pwmSet hp]
  subst hfin
  congr 1
  unfold State.nextPhase afterPhase
  rw [State.pwmWrite_ph]
  by_cases h4 : s.ph = 4
  · rw [if_pos h4, if_pos (hlast.mp h4), if_pos (hlast.mp h4), ← h4]
    rfl
  · rw [if_neg h4, if_neg (mt hlast.mpr h4), if_neg (mt hlast.mpr h4), hnext]
    rfl

/-- s after the PWM_SETs of all five phases. -/
def afterPhases (s : State) : State := afterPhase 4 (afterPhase 3 (afterPhase 2 (afterPhase 1 (afterPhase 0 s))))

/-- Every level is then that of the row. -/
theorem afterPhases_level (s : State) (k : Fin 5) : (afterPhases s).level[k] = levelFor s.row[k] s.duty := by
  fin_cases k <;> simp [afterPhases]

/-- The five Pwm events show the five levels. -/
theorem afterPhases_trace (s : State) : (afterPhases s).trace = s.trace ++
    [Event.pwm 0 (afterPhases s).level[0], Event.pwm 1 (afterPhases s).level[1], Event.pwm 2 (afterPhases s).level[2],
      Event.pwm 3 (afterPhases s).level[3], Event.pwm 4 (afterPhases s).level[4]] := by
  simp [afterPhases]

theorem runSteps_phases (hst : s.st = .pwmSet) (hph : s.ph = 0) (hf : s.fault = none) (hs : s.sched = []) :
    runSteps 5 s = .next (afterPhases s) := by
  have he : exec s.st.instr s = .next (afterPhase 0 s) := hst ▸ exec_pwmSet_at (k := 0) hph
  exact runSteps_block (by rw [hst]; rfl) hf hs he <|
    runSteps_block rfl (by simp [hf]) (by simp [hs]) (exec_pwmSet_at (k := 1) rfl) <|
    runSteps_block rfl (by simp [hf]) (by simp [hs]) (exec_pwmSet_at (k := 2) rfl) <|
    runSteps_block rfl (by simp [hf]) (by simp [hs]) (exec_pwmSet_at (k := 3) rfl) <|
    runSteps_block rfl (by simp [hf]) (by simp [hs]) (exec_pwmSet_at (k := 4) rfl) rfl

/-! ### COMPOSE, the two port writes, the two reads (42_port_codec.md R101 to R105) -/

/-- s after COMPOSE, WR_LO, WR_HI, RD_LO and RD_HI. -/
def afterPorts (s : State) : State :=
  let composed := (s.setPorts (portLoOf s.row) (portHiOf s.row)).goto .wrLo
  let lowSent := (composed.busWrite s.cfg.bus.regPortLo (portLoOf s.row)).goto .wrHi
  let highSent := (lowSent.busWrite s.cfg.bus.regPortHi (portHiOf s.row)).goto .rdLo
  let lowRead := ((highSent.busRead s.cfg.bus.regPortLo).verify s.cfg.bus.regPortLo (portLoOf s.row)
    (readReply highSent).r2).goto .rdHi
  ((lowRead.busRead s.cfg.bus.regPortHi).verify s.cfg.bus.regPortHi (portHiOf s.row) (readReply lowRead).r2).goto .advance

theorem runSteps_ports (hst : s.st = .compose) (hf : s.fault = none) (hs : s.sched = []) :
    runSteps 5 s = .next (afterPorts s) := by
  have he : exec s.st.instr s = .next ((s.setPorts (portLoOf s.row) (portHiOf s.row)).goto .wrLo) := by rw [hst]; rfl
  exact runSteps_block (by rw [hst]; rfl) hf hs he <|
    runSteps_block rfl (by simp [hf]) (by simp [hs]) exec_wrLo <|
    runSteps_block rfl (by simp [hf]) (by simp [hs]) exec_wrHi <|
    runSteps_block rfl (by simp [hf]) (by simp [hs]) exec_rdLo <|
    runSteps_block rfl (by simp [hf]) (by simp [hs]) exec_rdHi rfl

/-- The two write frames, then the two read frames each with its report. -/
theorem afterPorts_trace (s : State) : ∃ a b lo hi : Reply, (afterPorts s).trace = s.trace ++
    [Event.frame s.cfg.bus.opWr s.cfg.bus.regPortLo (portLoOf s.row) a.r0 a.r1 a.r2] ++
      [Event.frame s.cfg.bus.opWr s.cfg.bus.regPortHi (portHiOf s.row) b.r0 b.r1 b.r2] ++
      [Event.frame s.cfg.bus.opRd s.cfg.bus.regPortLo 0x00#8 lo.r0 lo.r1 lo.r2] ++
      (if lo.r2 = portLoOf s.row then [] else [Event.mismatch s.cfg.bus.regPortLo (portLoOf s.row) lo.r2]) ++
      [Event.frame s.cfg.bus.opRd s.cfg.bus.regPortHi 0x00#8 hi.r0 hi.r1 hi.r2] ++
      (if hi.r2 = portHiOf s.row then [] else [Event.mismatch s.cfg.bus.regPortHi (portHiOf s.row) hi.r2]) :=
  ⟨writeReply _, writeReply _, readReply _, readReply _, rfl⟩

/-! ### Index, heartbeat, sleep (43_sequencer.md R122 to R125) -/

/-- s after ADVANCE under d, HEARTBEAT, SLEEP_ARM, the expiry and SLEEP_WAIT. -/
def afterPacing (d : Dir) (s : State) : State :=
  { s with
    st := .lookup, idx := nextIndex d s.idx, hb := !s.hb, sleepMs := s.period, tmr := .idle
    trace := s.trace ++ [.line .heartbeat (!s.hb)] ++ [.timer s.period] }

theorem afterPacing_trace (d : Dir) (s : State) :
    (afterPacing d s).trace = s.trace ++ [Event.line .heartbeat (!s.hb)] ++ [Event.timer s.period] := rfl

theorem runSteps_pacing {d : Dir} (hst : s.st = .advance) (hd : s.dir = d.code) (hf : s.fault = none) (hs : s.sched = []) :
    runSteps 5 s = .next (afterPacing d s) := by
  have he : exec s.st.instr s = .next ((s.moveIdx d).goto .heartbeat) := by rw [hst]; exact exec_advance hd
  exact runSteps_block (by rw [hst]; rfl) hf hs he <|
    runSteps_block rfl (by simp [hf]) (by simp [hs]) exec_heartbeat <|
    runSteps_block rfl (by simp [hf]) (by simp [hs]) exec_sleepArm <|
    runSteps_wait rfl (by simp [hf]) (by simp [hs]) rfl (exec_sleepWait rfl) rfl

/-! ### One iteration -/

/-- s after LOOKUP. -/
def afterLookup (s : State) (h : s.idx.toNat < 20) : State := (s.latchRow s.cfg.phaseTable[s.idx.toNat]).goto .pwmSet

/-- s after one iteration under d: LOOKUP, the five levels, the port frames, the pacing. -/
def afterIteration (d : Dir) (s : State) (h : s.idx.toNat < 20) : State :=
  afterPacing d (afterPorts (afterPhases (afterLookup s h)))

theorem runSteps_iteration {d : Dir} (h : s.idx.toNat < 20) (hst : s.st = .lookup) (hd : s.dir = d.code)
    (hf : s.fault = none) (hs : s.sched = []) : runSteps 16 s = .next (afterIteration d s h) := by
  have he : exec s.st.instr s = .next (afterLookup s h) := by rw [hst]; exact exec_lookup h
  have hphases := runSteps_phases (s := afterLookup s h) rfl rfl hf hs
  have hports := runSteps_ports (s := afterPhases (afterLookup s h)) rfl (by simp [afterPhases, afterLookup, hf])
    (by simp [afterPhases, afterLookup, hs])
  have hpacing := runSteps_pacing (d := d) (s := afterPorts (afterPhases (afterLookup s h))) rfl
    (by simp [afterPorts, afterPhases, afterLookup, hd]) (by simp [afterPorts, afterPhases, afterLookup, hf])
    (by simp [afterPorts, afterPhases, afterLookup, hs])
  refine runSteps_block (n := 15) (by rw [hst]; rfl) hf hs he ?_
  exact (runSteps_add hphases 10).trans ((runSteps_add hports 5).trans hpacing)

section
variable (d : Dir) (s : State) (h : s.idx.toNat < 20)

theorem afterIteration_row : (afterIteration d s h).row = s.cfg.phaseTable[s.idx.toNat] := by
  simp [afterIteration, afterPacing, afterPorts, afterPhases, afterLookup]

theorem afterIteration_ports : (afterIteration d s h).portLo = portLoOf (afterIteration d s h).row ∧
    (afterIteration d s h).portHi = portHiOf (afterIteration d s h).row := by
  simp [afterIteration, afterPacing, afterPorts]

theorem afterIteration_level (k : Fin 5) :
    (afterIteration d s h).level[k] = levelFor (afterIteration d s h).row[k] s.duty := by
  have hlevel : (afterIteration d s h).level = (afterPhases (afterLookup s h)).level := by
    simp [afterIteration, afterPacing, afterPorts]
  have hrow : (afterIteration d s h).row = (afterLookup s h).row := by
    simp [afterIteration, afterPacing, afterPorts, afterPhases]
  rw [hlevel, hrow]
  exact afterPhases_level (afterLookup s h) k

/-- The trace gains the events of the three parts, in their order. -/
theorem afterIteration_trace {t : State} (ht : t = afterIteration d s h) : ∃ a b lo hi : Reply, t.trace = s.trace ++
    [Event.pwm 0 t.level[0], Event.pwm 1 t.level[1], Event.pwm 2 t.level[2], Event.pwm 3 t.level[3], Event.pwm 4 t.level[4],
      Event.frame s.cfg.bus.opWr s.cfg.bus.regPortLo t.portLo a.r0 a.r1 a.r2,
      Event.frame s.cfg.bus.opWr s.cfg.bus.regPortHi t.portHi b.r0 b.r1 b.r2,
      Event.frame s.cfg.bus.opRd s.cfg.bus.regPortLo 0x00#8 lo.r0 lo.r1 lo.r2] ++
    (if lo.r2 = t.portLo then [] else [Event.mismatch s.cfg.bus.regPortLo t.portLo lo.r2]) ++
    [Event.frame s.cfg.bus.opRd s.cfg.bus.regPortHi 0x00#8 hi.r0 hi.r1 hi.r2] ++
    (if hi.r2 = t.portHi then [] else [Event.mismatch s.cfg.bus.regPortHi t.portHi hi.r2]) ++
    [Event.line .heartbeat (!s.hb), Event.timer s.period] := by
  obtain ⟨a, b, lo, hi, hports⟩ := afterPorts_trace (afterPhases (afterLookup s h))
  have hcfg : (afterPhases (afterLookup s h)).cfg = s.cfg := by simp [afterPhases, afterLookup]
  have hstart : (afterLookup s h).trace = s.trace := rfl
  have hlevel : t.level = (afterPhases (afterLookup s h)).level := by simp [ht, afterIteration, afterPacing, afterPorts]
  have hlo : t.portLo = portLoOf (afterPhases (afterLookup s h)).row := by simp [ht, afterIteration, afterPacing, afterPorts]
  have hhi : t.portHi = portHiOf (afterPhases (afterLookup s h)).row := by simp [ht, afterIteration, afterPacing, afterPorts]
  have hhb : (afterPorts (afterPhases (afterLookup s h))).hb = s.hb := by simp [afterPorts, afterPhases, afterLookup]
  have hperiod : (afterPorts (afterPhases (afterLookup s h))).period = s.period := by
    simp [afterPorts, afterPhases, afterLookup]
  refine ⟨a, b, lo, hi, ?_⟩
  rw [hlevel, hlo, hhi, ht, afterIteration, afterPacing_trace, hports, afterPhases_trace, hcfg, hstart, hhb, hperiod]
  simp only [List.append_assoc, List.cons_append, List.nil_append]

end

/-- Settles O51: the state after the iteration, read field by field. -/
theorem iterationRun : Obligations.IterationRun := by
  intro s d h hst hd _ hf hs
  obtain ⟨hlo, hhi⟩ := afterIteration_ports d s h
  obtain ⟨a, b, lo, hi, htrace⟩ := afterIteration_trace d s h rfl
  refine ⟨afterIteration d s h, a, b, lo, hi, runSteps_iteration h hst hd hf hs, rfl, afterIteration_row d s h, hlo, hhi,
    afterIteration_level d s h, ?_, ?_, ?_, rfl, ?_, htrace⟩
  all_goals simp [afterIteration, afterPacing, afterPorts, afterPhases, afterLookup, hf]

/-! ### A duty that changes between two phases (20_memory.md section 3) -/

/-- A scheduled step of a live block at PWM_SET, phase k. -/
theorem step_pwmSet_at {k : Fin 5} {rest : List Action} (hst : s.st = .pwmSet) (hf : s.fault = none)
    (hs : s.sched = .seq :: rest) (hk : s.ph = BitVec.ofNat 3 k.val) :
    step s = .next (afterPhase k { s with sched := rest }) := by
  have he : exec s.st.instr { s with sched := rest } = exec .pwmSet { s with sched := rest } := by rw [hst]; rfl
  rw [step_seq hs, seqStep_alive (s := { s with sched := rest }) hf]
  exact he.trans (exec_pwmSet_at (s := { s with sched := rest }) hk)

/-- Settles O47: the two PWM_SETs write their phases' levels with the duty each of them finds. -/
theorem dutyMayChangeBetweenPhases : Obligations.DutyMayChangeBetweenPhases := by
  intro s d h hst hf hon hon' hs hd
  let k : Fin 5 := ⟨s.ph.toNat, by omega⟩
  let k' : Fin 5 := ⟨s.ph.toNat + 1, by omega⟩
  let s₁ := afterPhase k { s with sched := [.ctl (.duty d), .seq] }
  have hk : k.val ≠ 4 := Nat.ne_of_lt h
  have hfirst : step s = .next s₁ := step_pwmSet_at hst hf hs (by simp [k])
  have hwrite : step s₁ = .next { s₁ with sched := [.seq], duty := d } :=
    (step_ctl rfl).trans (congrArg _ (ctlWrite_duty (s := { s₁ with sched := [.seq] }) hd))
  have hsecond : step { s₁ with sched := [.seq], duty := d } =
      .next (afterPhase k' { s₁ with sched := [], duty := d }) :=
    step_pwmSet_at (if_neg hk) hf rfl (if_neg hk)
  refine ⟨_, (runSteps_succ hfirst 2).trans ((runSteps_succ hwrite 1).trans (runSteps_succ hsecond 0)), ?_, ?_⟩
  · simp [s₁, k, k', levelFor_of_ne_zero hon]
  · simp [s₁, k, k', levelFor_of_ne_zero hon']

end Sys2Proof.Machine
end
